-- ==== Sys2Proof/Word.lean ====
section
/-! DEFINITION. The word types of the machine: 8-bit data and 16-bit addresses (00_scope.md rule R5). -/

namespace Sys2Proof

/-- 8 bits: the unit of memory and I/O (00_scope.md rule R7). -/
abbrev Byte := BitVec 8

/-- 16 bits: a logical address, an I/O address, a register pair (00_scope.md rule R7). -/
abbrev Word := BitVec 16

end Sys2Proof
end

