-- ==== Sys2Proof/Machine/Bits.lean ====
section
/-! DEFINITION. The bit-field and byte-order helpers of the notation (00_scope.md rule R7). -/

namespace Sys2Proof

/-- `v[15:8]`. -/
def hiByte (v : Word) : Byte := v.extractLsb' 8 8

/-- `v[7:0]`. -/
def loByte (v : Word) : Byte := v.extractLsb' 0 8

/-- `hi : lo`, the word `hi * 256 + lo` (10_state.md rule R21). -/
def mkWord (hi lo : Byte) : Word := hi ++ lo

/-- `sext_16(d)`: a byte read as a number from -128 to 127 and widened (00_scope.md rule R7). -/
def sext16 (d : Byte) : Word := d.signExtend 16

/-- The low four bits of a byte, `v[3:0]`. -/
def loNibble (v : Byte) : BitVec 4 := v.extractLsb' 0 4

/-- The high four bits of a byte, `v[7:4]`. -/
def hiNibble (v : Byte) : BitVec 4 := v.extractLsb' 4 4

/-- `y * 8` as an address: the target of restart number `y` (30_encoding.md rule R111). -/
def restartAddr (y : BitVec 3) : Word := y.setWidth 16 * 8#16

/-- A truth value as a bit: 1 when it holds. -/
def bit (b : Bool) : Byte := if b then 1#8 else 0#8

end Sys2Proof
end

