-- ==== Sys2Proof/Config.lean ====
section
/-! DEFINITION. What an implementation fixes (00_scope.md rule R5) as a record of plain data, and the free
values of rule R8 as constants with no body. -/

namespace Sys2Proof

/-- What an undefined encoding does (30_encoding.md rules R118, R119). -/
inductive UndefPolicy where
  | nop
  | fault
  deriving DecidableEq, Repr

/-- `BANK_DECODE`, a total function of a byte, as data: the remainder by a modulus (the test instance), or a
table with the page of every byte value. -/
inductive BankDecode where
  | modulo (m : Nat)
  | table (pages : List Nat)
  deriving DecidableEq, Repr

/-- `NV_CHECKSUM`, a total function of four bytes, as data: the exclusive-or of the test instance, or free
function number `k`, of which nothing is known. -/
inductive NvChecksum where
  | xor
  | free (k : Nat)
  deriving DecidableEq, Repr

/-- The configuration record (00_scope.md rule R5). `N_WINDOWS`, `ROM_SIZE` and `N_UNITS` are fixed by their
constraints and are functions below. -/
structure Config where
  undefPolicy    : UndefPolicy
  pageBits       : Nat
  nPhysPages     : Nat
  nRomPages      : Nat
  resetMap       : List Nat
  bankPort       : List (Option Byte)
  bankDecode     : BankDecode
  idleValue      : Byte
  uartData       : Byte
  uartStatus     : Byte
  uartEmptyValue : Byte
  diskBase       : Byte
  sectorSize     : Nat
  nvAddr         : Byte
  nvData         : Byte
  nvSig          : Byte
  nvChecksum     : NvChecksum
  nvMenuString   : List Char
  batchBudget    : Nat
  deriving DecidableEq, Repr

/-- Bytes in a window or a physical page. -/
def Config.pageSize (c : Config) : Nat := 2 ^ c.pageBits

/-- `N_WINDOWS = 2^(16 - PAGE_BITS)`. -/
def Config.nWindows (c : Config) : Nat := 2 ^ (16 - c.pageBits)

/-- `ROM_SIZE = N_ROM_PAGES * 2^PAGE_BITS`: the bytes of ROM, and the length `loadRom` expects. -/
def Config.romSize (c : Config) : Nat := c.nRomPages * c.pageSize

/-- Bytes of physical memory (10_state.md rule R37). -/
def Config.physSize (c : Config) : Nat := c.nPhysPages * c.pageSize

/-- The test instance of rule R5, used by every example of the spec. -/
def Config.testInstance : Config where
  undefPolicy    := .nop
  pageBits       := 15
  nPhysPages     := 32
  nRomPages      := 16
  resetMap       := [0, 31]
  bankPort       := [some 0x30#8, none]
  bankDecode     := .modulo 32
  idleValue      := 0xFF#8
  uartData       := 0x00#8
  uartStatus     := 0x01#8
  uartEmptyValue := 0x00#8
  diskBase       := 0x10#8
  sectorSize     := 512
  nvAddr         := 0x20#8
  nvData         := 0x21#8
  nvSig          := 0xA5#8
  nvChecksum     := .xor
  nvMenuString   := ['m', 'e', 'n', 'u']
  batchBudget    := 10000

/-- FREE VALUE, draw number `n` of the unspecified flag bits (10_state.md rule R27, 49_io.md, U2, U5). -/
opaque Config.drawByte (n : Nat) : Byte

/-- FREE VALUE, what a RAM byte at a physical address holds until it is written, for the `epoch`-th time RAM
became unspecified (20_memory.md rule R69, U7). -/
opaque Config.ramDraw (epoch addr : Nat) : Byte

/-- FREE VALUE, the ROM byte at a physical address of which the model was given no content: the image a host
loaded, when none was placed (20_memory.md rule R68). -/
opaque Config.romImage (addr : Nat) : Byte

/-- FREE VALUE, byte `k` of the registers a host reset leaves unspecified (10_state.md rule R46, U6). -/
opaque Config.regDraw (epoch k : Nat) : Byte

/-- FREE VALUE, checksum function number `k` (00_scope.md rule R5, `NV_CHECKSUM`). -/
opaque Config.checksumFn (k : Nat) (b0 b1 b2 b3 : Byte) : Byte

end Sys2Proof
end

