-- ==== Sys2Proof/Machine/State.lean ====
section
/-! DEFINITION. The state of the machine as plain data (10_state.md), its reset value, and the reasons a step can
stop. The reset values are those after completeInit() and reset() (10_state.md rules R46, R47); the registers for
which the spec gives none are named in assumption log 4. -/

namespace Sys2Proof.Machine

/-- The flag register F (10_state.md rule R26), one truth value per bit: bit 7 S, 6 Z, 5 F5, 4 H, 3 F3, 2 P/V, 1 N,
0 C. -/
structure Flags where
  s  : Bool
  z  : Bool
  f5 : Bool
  h  : Bool
  f3 : Bool
  pv : Bool
  n  : Bool
  c  : Bool
  deriving DecidableEq, Repr

/-- The interrupt modes (10_state.md rule R32). -/
inductive InterruptMode where
  | im0 | im1 | im2
  deriving DecidableEq, Repr

/-- The registers of the CPU (10_state.md rules R20 to R25, R29 to R34). -/
structure Cpu where
  a       : Byte
  f       : Flags
  b       : Byte
  c       : Byte
  d       : Byte
  e       : Byte
  h       : Byte
  l       : Byte
  shA     : Byte
  shF     : Flags
  shB     : Byte
  shC     : Byte
  shD     : Byte
  shE     : Byte
  shH     : Byte
  shL     : Byte
  ix      : Word
  iy      : Word
  sp      : Word
  pc      : Word
  i       : Byte
  r       : Byte
  iff1    : Bool
  iff2    : Bool
  im      : InterruptMode
  halted  : Bool
  eiDelay : Bool
  deriving DecidableEq, Repr

/-- The interrupt inputs of the step (10_state.md rule R35). -/
structure Pins where
  nmiPending : Bool
  intLine    : Bool
  intData    : Byte
  deriving DecidableEq, Repr

/-- Memory and banking (10_state.md rules R37 to R39): the bytes of physical memory that something has written, by
physical address; the page of each window; how often RAM has become unspecified; whether a ROM was accepted. -/
structure MemUnit where
  bytes     : List Host.Cell
  map       : List Nat
  epoch     : Nat
  romLoaded : Bool
  deriving DecidableEq, Repr

/-- The console UART (10_state.md rule R41): both queues oldest first. -/
structure Uart where
  rx : List Byte
  tx : List Byte
  deriving DecidableEq, Repr

/-- One of the sixteen disk units (10_state.md rule R42). -/
structure DiskUnit where
  loaded         : Bool
  image          : List Byte
  total          : Nat
  slices         : Nat
  manifest       : Bool
  warnSuppressed : Bool
  dirty          : Bool
  deriving DecidableEq, Repr

/-- The transfer state machine of the disk controller (10_state.md rule R43). -/
inductive XferState where
  | idle | readXfer | writeXfer
  deriving DecidableEq, Repr

/-- The disk controller (10_state.md rules R42 to R44). -/
structure Disk where
  units           : Vector DiskUnit 16
  dkUnit          : BitVec 4
  dkLba           : BitVec 32
  dkState         : XferState
  dkErr           : Bool
  dkBuf           : List Byte
  dkIdx           : Nat
  dkCurUnit       : BitVec 4
  dkCurLba        : BitVec 32
  manifestWarning : Bool
  deriving DecidableEq, Repr

/-- The five bytes `nv[0..4]` of the NVRAM (10_state.md rule R45). -/
structure NvRecord where
  signature : Byte
  selector  : Byte
  unit      : Byte
  slice     : Byte
  checksum  : Byte
  deriving DecidableEq, Repr

/-- The NVRAM (10_state.md rule R45). -/
structure Nvram where
  record : NvRecord
  dirty  : Bool
  addr   : Byte
  deriving DecidableEq, Repr

/-- `xfer_state` of the file-transfer bridge (10_state.md rule R50). -/
inductive BridgeState where
  | idle | waitingRead | reading | writing | writeReady
  deriving DecidableEq, Repr

/-- The file-transfer bridge (10_state.md rule R50). -/
structure Bridge where
  state  : BridgeState
  name   : List Byte
  buffer : List Byte
  deriving DecidableEq, Repr

/-- The engine's lifecycle (10_state.md rule R51). -/
inductive Life where
  | uninit | created | running
  deriving DecidableEq, Repr

/-- The machine. `cfg` is the configuration record the model takes as an argument (00_scope.md rule R5), carried in
the state because `step` has the state for its only argument; no step changes it. `draws` is the model's own counter
of the draws made for unspecified flag bits (00_scope.md rule R8; log 5). -/
structure State where
  cpu    : Cpu
  pins   : Pins
  mem    : MemUnit
  uart   : Uart
  disk   : Disk
  nvram  : Nvram
  bridge : Bridge
  life   : Life
  draws  : Nat
  cfg    : Config
  deriving DecidableEq, Repr

/-- Why a step can stop with a fault. -/
inductive Fault where
  /-- Raised by `step` on an undefined encoding when `UNDEF_POLICY = fault` (30_encoding.md rule R119), with the
  address of the encoding and the bytes read to find it undefined. SAFE: the spec itself stops the model there. -/
  | undefinedEncoding (pc : Word) (bytes : List Byte)
  deriving DecidableEq, Repr

/-- Why a step can be refused. -/
inductive Refusal where
  /-- Raised by an arm of `exec` that has no meaning yet. SAFE: nothing is claimed of it. No arm raises it. -/
  | notModelled (mnemonic : String)
  /-- Raised by `step` on a maskable interrupt in mode 0 whose byte is no restart (60_exceptions.md rule R506, U8).
  SAFE: the spec gives that case no successor. -/
  | mode0Interrupt (intData : Byte)
  /-- Raised by `step` in a state whose configuration is ill formed (00_scope.md rule R6). SAFE: the spec has the
  model refuse such a configuration. -/
  | illFormedConfig
  deriving DecidableEq, Repr

/-- A flag register with every bit 0. -/
def Flags.zero : Flags where
  s  := false
  z  := false
  f5 := false
  h  := false
  f3 := false
  pv := false
  n  := false
  c  := false

/-- The CPU after a reset (10_state.md rule R46): PC, I, R, IFF1, IFF2, IM, halted and ei_delay hold the values of
the rule; it leaves the other registers unspecified, and they hold zeros here (log 4). -/
def Cpu.reset : Cpu where
  a       := 0x00#8
  f       := Flags.zero
  b       := 0x00#8
  c       := 0x00#8
  d       := 0x00#8
  e       := 0x00#8
  h       := 0x00#8
  l       := 0x00#8
  shA     := 0x00#8
  shF     := Flags.zero
  shB     := 0x00#8
  shC     := 0x00#8
  shD     := 0x00#8
  shE     := 0x00#8
  shH     := 0x00#8
  shL     := 0x00#8
  ix      := 0x0000#16
  iy      := 0x0000#16
  sp      := 0x0000#16
  pc      := 0x0000#16
  i       := 0x00#8
  r       := 0x00#8
  iff1    := false
  iff2    := false
  im      := .im0
  halted  := false
  eiDelay := false

/-- A disk unit with nothing loaded (10_state.md rule R47, column "after init()"). -/
def DiskUnit.empty : DiskUnit where
  loaded         := false
  image          := []
  total          := 0
  slices         := 0
  manifest       := false
  warnSuppressed := false
  dirty          := false

/-- The disk controller after init() (10_state.md rules R43, R47); `dk_buf`, `dk_cur_unit` and `dk_cur_lba` are
unspecified there and hold zeros here (log 4). -/
def Disk.init (sectorSize : Nat) : Disk where
  units           := Vector.replicate 16 DiskUnit.empty
  dkUnit          := 0#4
  dkLba           := 0#32
  dkState         := .idle
  dkErr           := false
  dkBuf           := List.replicate sectorSize 0x00#8
  dkIdx           := 0
  dkCurUnit       := 0#4
  dkCurLba        := 0#32
  manifestWarning := false

/-- The NVRAM after init() (60_exceptions.md rule R551). -/
def Nvram.init : Nvram where
  record := { signature := 0x00#8, selector := 0x00#8, unit := 0x00#8, slice := 0x00#8, checksum := 0x00#8 }
  dirty  := false
  addr   := 0x00#8

/-- The machine right after completeInit() in the test instance, with no disk loaded and nothing queued (10_state.md
rules R46, R47). -/
def State.reset : State where
  cpu    := Cpu.reset
  pins   := { nmiPending := false, intLine := false, intData := 0x00#8 }
  mem    := { bytes := [], map := Config.testInstance.resetMap, epoch := 0, romLoaded := true }
  uart   := { rx := [], tx := [] }
  disk   := Disk.init Config.testInstance.sectorSize
  nvram  := Nvram.init
  bridge := { state := .idle, name := [], buffer := [] }
  life   := .running
  draws  := 0
  cfg    := Config.testInstance

end Sys2Proof.Machine
end

