-- ==== Sys2Proof/Machine/Flags.lean ====
section
/-! DEFINITION. F as a byte, and every flag computation of the spec as a function of values: 43_arith8.md rules R257 to
R261, 44_general_cpu_control.md rule R310, 45_arith16.md rules R322 and R323, 46_rotate_shift.md rule R335, and the
flag records of the other groups. -/

namespace Sys2Proof.Machine

/-- The byte F (10_state.md rule R26): S, Z, F5, H, F3, P/V, N, C from bit 7 down to bit 0. -/
def Flags.toByte (f : Flags) : Byte :=
  BitVec.ofBool f.s ++ BitVec.ofBool f.z ++ BitVec.ofBool f.f5 ++ BitVec.ofBool f.h ++ BitVec.ofBool f.f3 ++
    BitVec.ofBool f.pv ++ BitVec.ofBool f.n ++ BitVec.ofBool f.c

/-- F from a byte, all eight bits (`POP AF`). -/
def Flags.ofByte (v : Byte) : Flags where
  s  := v.getLsbD 7
  z  := v.getLsbD 6
  f5 := v.getLsbD 5
  h  := v.getLsbD 4
  f3 := v.getLsbD 3
  pv := v.getLsbD 2
  n  := v.getLsbD 1
  c  := v.getLsbD 0

/-- The six flags a rule computes, `flags(S, Z, H, PV, N, C)` (00_scope.md rule R7); the two remaining bits of F are
drawn when the record is written to F. -/
structure Fl where
  s  : Bool
  z  : Bool
  h  : Bool
  pv : Bool
  n  : Bool
  c  : Bool
  deriving DecidableEq, Repr

/-- `parity8(v)`: an even number of 1 bits (43_arith8.md rule R257). -/
def parity8 (v : Byte) : Bool :=
  ((v.getLsbD 0).toNat + (v.getLsbD 1).toNat + (v.getLsbD 2).toNat + (v.getLsbD 3).toNat +
    (v.getLsbD 4).toNat + (v.getLsbD 5).toNat + (v.getLsbD 6).toNat + (v.getLsbD 7).toNat) % 2 == 0

/-- `add8(a, b, cin)` (43_arith8.md rule R258). -/
def add8 (a b : Byte) (cin : Bool) : Byte × Fl :=
  let sum := a.toNat + b.toNat + cin.toNat
  let res : Byte := BitVec.ofNat 8 sum
  (res, {
    s  := res.getLsbD 7
    z  := res == 0#8
    h  := decide (a.toNat % 16 + b.toNat % 16 + cin.toNat > 15)
    pv := (a.getLsbD 7 == b.getLsbD 7) && (res.getLsbD 7 != a.getLsbD 7)
    n  := false
    c  := decide (sum > 255) })

/-- `sub8(a, b, cin)` (43_arith8.md rule R259). -/
def sub8 (a b : Byte) (cin : Bool) : Byte × Fl :=
  let diff : Int := (a.toNat : Int) - (b.toNat : Int) - (cin.toNat : Int)
  let res : Byte := BitVec.ofInt 8 diff
  (res, {
    s  := res.getLsbD 7
    z  := res == 0#8
    h  := decide (((a.toNat % 16 : Nat) : Int) - ((b.toNat % 16 : Nat) : Int) - (cin.toNat : Int) < 0)
    pv := (a.getLsbD 7 != b.getLsbD 7) && (res.getLsbD 7 != a.getLsbD 7)
    n  := true
    c  := decide (diff < 0) })

/-- The flags of a bitwise operation with result `res` and half carry `h` (43_arith8.md rule R260). -/
def logicFlags (res : Byte) (h : Bool) : Fl where
  s  := res.getLsbD 7
  z  := res == 0#8
  h  := h
  pv := parity8 res
  n  := false
  c  := false

/-- `and8(a, b)` (43_arith8.md rule R260). -/
def and8 (a b : Byte) : Byte × Fl := (a &&& b, logicFlags (a &&& b) true)

/-- `or8(a, b)` (43_arith8.md rule R260). -/
def or8 (a b : Byte) : Byte × Fl := (a ||| b, logicFlags (a ||| b) false)

/-- `xor8(a, b)` (43_arith8.md rule R260). -/
def xor8 (a b : Byte) : Byte × Fl := (a ^^^ b, logicFlags (a ^^^ b) false)

/-- `inc8(v)` (43_arith8.md rule R261), with the carry flag `c` that it leaves alone. -/
def inc8 (v : Byte) (c : Bool) : Byte × Fl :=
  let res := v + 1#8
  (res, {
    s  := res.getLsbD 7
    z  := res == 0#8
    h  := v.toNat % 16 == 15
    pv := v == 0x7F#8
    n  := false
    c  := c })

/-- `dec8(v)` (43_arith8.md rule R261), with the carry flag `c` that it leaves alone. -/
def dec8 (v : Byte) (c : Bool) : Byte × Fl :=
  let res := v - 1#8
  (res, {
    s  := res.getLsbD 7
    z  := res == 0#8
    h  := v.toNat % 16 == 0
    pv := v == 0x80#8
    n  := true
    c  := c })

/-- The decimal adjustment of `a` under the flags H, N, C (44_general_cpu_control.md rule R310). -/
def daa8 (a : Byte) (h n c : Bool) : Byte × Fl :=
  let low  := h || decide (a.toNat % 16 > 9)
  let high := c || decide (a.toNat > 0x99)
  let corr : Byte := (if low then 0x06#8 else 0x00#8) ||| (if high then 0x60#8 else 0x00#8)
  let res := if n then a - corr else a + corr
  (res, {
    s  := res.getLsbD 7
    z  := res == 0#8
    h  := (a ^^^ res).getLsbD 4
    pv := parity8 res
    n  := n
    c  := high })

/-- `add16(a, b)`: the sum, the half carry, the carry (45_arith16.md rule R322). -/
def add16 (a b : Word) : Word × Bool × Bool :=
  (BitVec.ofNat 16 (a.toNat + b.toNat), decide (a.toNat % 4096 + b.toNat % 4096 > 4095),
    decide (a.toNat + b.toNat > 65535))

/-- `adc16(a, b, cin)` (45_arith16.md rule R323). -/
def adc16 (a b : Word) (cin : Bool) : Word × Fl :=
  let sum := a.toNat + b.toNat + cin.toNat
  let res : Word := BitVec.ofNat 16 sum
  (res, {
    s  := res.getLsbD 15
    z  := res == 0#16
    h  := decide (a.toNat % 4096 + b.toNat % 4096 + cin.toNat > 4095)
    pv := (a.getLsbD 15 == b.getLsbD 15) && (res.getLsbD 15 != a.getLsbD 15)
    n  := false
    c  := decide (sum > 65535) })

/-- `sbc16(a, b, cin)` (45_arith16.md rule R323). -/
def sbc16 (a b : Word) (cin : Bool) : Word × Fl :=
  let diff : Int := (a.toNat : Int) - (b.toNat : Int) - (cin.toNat : Int)
  let res : Word := BitVec.ofInt 16 diff
  (res, {
    s  := res.getLsbD 15
    z  := res == 0#16
    h  := decide (((a.toNat % 4096 : Nat) : Int) - ((b.toNat % 4096 : Nat) : Int) - (cin.toNat : Int) < 0)
    pv := (a.getLsbD 15 != b.getLsbD 15) && (res.getLsbD 15 != a.getLsbD 15)
    n  := true
    c  := decide (diff < 0) })

/-- The seven rotates and shifts (46_rotate_shift.md rule R335). -/
inductive RotOp where
  | rlc | rrc | rl | rr | sla | sra | srl
  deriving DecidableEq, Repr

/-- `rot8(a, v, cin)`: the result and the bit shifted out (46_rotate_shift.md rule R335). -/
def rot8 (op : RotOp) (v : Byte) (cin : Bool) : Byte × Bool :=
  match op with
  | .rlc => (v.extractLsb' 0 7 ++ v.extractLsb' 7 1, v.getLsbD 7)
  | .rrc => (v.extractLsb' 0 1 ++ v.extractLsb' 1 7, v.getLsbD 0)
  | .rl  => (v.extractLsb' 0 7 ++ BitVec.ofBool cin, v.getLsbD 7)
  | .rr  => (BitVec.ofBool cin ++ v.extractLsb' 1 7, v.getLsbD 0)
  | .sla => (v.extractLsb' 0 7 ++ 0#1, v.getLsbD 7)
  | .sra => (v.extractLsb' 7 1 ++ v.extractLsb' 1 7, v.getLsbD 0)
  | .srl => (0#1 ++ v.extractLsb' 1 7, v.getLsbD 0)

/-- Flags from a byte's sign, zero and parity with H = N = 0 and carry `c`: the rotates and shifts of the CB page
(rule R335), `RLD` and `RRD` (rules R368, R369), `IN r,(C)` (49_io.md rule R401). -/
def szpFlags (res : Byte) (c : Bool) : Fl where
  s  := res.getLsbD 7
  z  := res == 0#8
  h  := false
  pv := parity8 res
  n  := false
  c  := c

/-- The flags that keep S, Z, P/V of `f` and take the H, N, C given: the accumulator rotates (rules R336 to R339),
`ADD` on 16 bits (rules R324, R327, R328), `CCF`, `SCF`. -/
def keepSzp (f : Flags) (h n c : Bool) : Fl where
  s  := f.s
  z  := f.z
  h  := h
  pv := f.pv
  n  := n
  c  := c

/-- The flags of `LD A,I` and `LD A,R` (40_load8.md rules R217, R218). -/
def loadIrFlags (v : Byte) (iff2 c : Bool) : Fl where
  s  := v.getLsbD 7
  z  := v == 0#8
  h  := false
  pv := iff2
  n  := false
  c  := c

/-- The flags of the block transfers: `bc` is the counter after its decrement (42_exchange_block.md rule R249). -/
def blockLoadFlags (f : Flags) (bc : Word) : Fl where
  s  := f.s
  z  := f.z
  h  := false
  pv := bc != 0#16
  n  := false
  c  := f.c

/-- The flags of the block searches: `cmp` is the record of `sub8(A, t, 0)`, `bc` the counter after its decrement
(42_exchange_block.md rule R253). -/
def blockCompareFlags (cmp : Fl) (bc : Word) (c : Bool) : Fl where
  s  := cmp.s
  z  := cmp.z
  h  := cmp.h
  pv := bc != 0#16
  n  := true
  c  := c

/-- The flags of `BIT b,v` (47_bit.md rule R370). -/
def bitFlags (b : BitVec 3) (v : Byte) (c : Bool) : Fl where
  s  := (b == 7#3) && v.getLsbD b.toNat
  z  := !(v.getLsbD b.toNat)
  h  := true
  pv := !(v.getLsbD b.toNat)
  n  := false
  c  := c

/-- `v or (1 << b)` (47_bit.md rule R374). -/
def setBit8 (b : BitVec 3) (v : Byte) : Byte := v ||| (1#8 <<< b.toNat)

/-- `v and not (1 << b)` (47_bit.md rule R378). -/
def resBit8 (b : BitVec 3) (v : Byte) : Byte := v &&& ~~~(1#8 <<< b.toNat)

end Sys2Proof.Machine
end

