-- ==== Sys2Proof/Machine/Ops.lean ====
section
/-! DEFINITION. The named operations over memory, the stack, F, R and the program counter, and the acceptance of
interrupts with the return from them. -/

namespace Sys2Proof.Machine

/-- The outcome of a meaning. -/
abbrev Result := Host.Outcome State Fault Refusal

/-- The canonical form of memory: addresses strictly rising, so that equal memories are equal lists. -/
abbrev Memory.wf (m : List Host.Cell) : Prop := m.Pairwise (fun x y => x.1 < y.1)

/-- The listed byte at an address. -/
def Memory.lookup : List Host.Cell → Nat → Option Byte
  | [], _ => none
  | (a, v) :: rest, k => if a = k then some v else Memory.lookup rest k

/-- The memory with the byte at `k` listed as `v`, in its place in the order. -/
def Memory.insert : List Host.Cell → Nat → Byte → List Host.Cell
  | [], k, v => [(k, v)]
  | (a, w) :: rest, k, v =>
    if k < a then (k, v) :: (a, w) :: rest
    else if k = a then (k, v) :: rest
    else (a, w) :: Memory.insert rest k v

/-- What a physical address that nothing has written reads as: the loaded image in ROM, a draw in RAM (20_memory.md
rules R68, R69; log 3). -/
def State.unlistedByte (s : State) (pa : Nat) : Byte :=
  if pa < s.cfg.romSize then Config.romImage pa else Config.ramDraw s.mem.epoch pa

/-- `phys[pa]`. -/
def State.physRead (s : State) (pa : Nat) : Byte :=
  (Memory.lookup s.mem.bytes pa).getD (s.unlistedByte pa)

/-- `phys[pa] <- v`. -/
def State.physWrite (s : State) (pa : Nat) (v : Byte) : State :=
  { s with mem := { s.mem with bytes := Memory.insert s.mem.bytes pa v } }

/-- `map[w]` for the window of a logical address (20_memory.md rule R61). -/
def State.pageOf (s : State) (addr : Word) : Nat := s.mem.map.getD (addr.toNat / s.cfg.pageSize) 0

/-- The physical address behind a logical one (20_memory.md rules R61, R65). -/
def State.translate (s : State) (addr : Word) : Nat :=
  s.pageOf addr * s.cfg.pageSize + addr.toNat % s.cfg.pageSize

/-- `isRom(page)` of the page behind a logical address (10_state.md rule R37). -/
def State.isRom (s : State) (addr : Word) : Bool := decide (s.pageOf addr < s.cfg.nRomPages)

/-- `MemRead(addr, 1)` (20_memory.md rule R61). -/
def State.readByte (s : State) (addr : Word) : Byte := s.physRead (s.translate addr)

/-- `MemWrite(addr, 1, v)`: dropped when the page is ROM (20_memory.md rules R61, R66). -/
def State.writeByte (s : State) (addr : Word) (v : Byte) : State :=
  if s.isRom addr then s else s.physWrite (s.translate addr) v

/-- `MemRead(addr, 2)`: low byte at `addr`, high byte at `addr + 1` (20_memory.md rule R62). -/
def State.readWord (s : State) (addr : Word) : Word := mkWord (s.readByte (addr + 1#16)) (s.readByte addr)

/-- `MemWrite(addr, 2, v)`: low byte first (20_memory.md rule R62). -/
def State.writeWord (s : State) (addr : Word) (v : Word) : State :=
  (s.writeByte addr (loByte v)).writeByte (addr + 1#16) (hiByte v)

/-- `SP <- v`. -/
def State.setSp (s : State) (v : Word) : State := { s with cpu := { s.cpu with sp := v } }

/-- `pc <- v`. -/
def State.setPc (s : State) (v : Word) : State := { s with cpu := { s.cpu with pc := v } }

/-- `pc <- pc + n` (10_state.md rule R25). -/
def State.advance (s : State) (n : Nat) : State := s.setPc (s.cpu.pc + BitVec.ofNat 16 n)

/-- `push16(v)`: the high byte first, at the higher address (41_load16.md rule R221). -/
def State.push16 (s : State) (v : Word) : State :=
  let s1 := s.setSp (s.cpu.sp - 1#16)
  let s2 := s1.writeByte s1.cpu.sp (hiByte v)
  let s3 := s2.setSp (s2.cpu.sp - 1#16)
  s3.writeByte s3.cpu.sp (loByte v)

/-- `pop16()`: the value, and the state with SP two higher (41_load16.md rule R222). -/
def State.pop16 (s : State) : Word × State :=
  let lo := s.readByte s.cpu.sp
  let s1 := s.setSp (s.cpu.sp + 1#16)
  let hi := s1.readByte s1.cpu.sp
  (mkWord hi lo, s1.setSp (s1.cpu.sp + 1#16))

/-- `F <- fl`: the six computed flags, and a fresh draw for F5 and F3 (10_state.md rules R26, R27). -/
def State.setFlags (s : State) (fl : Fl) : State :=
  { s with
    cpu := { s.cpu with
      f := {
        s  := fl.s
        z  := fl.z
        f5 := (Config.drawByte s.draws).getLsbD 5
        h  := fl.h
        f3 := (Config.drawByte s.draws).getLsbD 3
        pv := fl.pv
        n  := fl.n
        c  := fl.c } }
    draws := s.draws + 1 }

/-- `F <- flags(Z = z; S, H, PV, N, C unspecified)`: everything but Z is drawn (49_io.md rule R402, U5). -/
def State.setFlagsBlockIo (s : State) (z : Bool) : State :=
  { s with
    cpu := { s.cpu with
      f := {
        s  := (Config.drawByte s.draws).getLsbD 7
        z  := z
        f5 := (Config.drawByte s.draws).getLsbD 5
        h  := (Config.drawByte s.draws).getLsbD 4
        f3 := (Config.drawByte s.draws).getLsbD 3
        pv := (Config.drawByte s.draws).getLsbD 2
        n  := (Config.drawByte s.draws).getLsbD 1
        c  := (Config.drawByte s.draws).getLsbD 0 } }
    draws := s.draws + 1 }

/-- `R[6:0] <- (R[6:0] + k) mod 128`, `R[7]` untouched (10_state.md rule R30, 30_encoding.md rule R120). -/
def refreshed (r : Byte) (k : Nat) : Byte := r.extractLsb' 7 1 ++ (r.extractLsb' 0 7 + BitVec.ofNat 7 k)

/-- The state with R advanced by `k`. -/
def State.refresh (s : State) (k : Nat) : State := { s with cpu := { s.cpu with r := refreshed s.cpu.r k } }

/-- `ei_delay <- 0` (10_state.md rule R34). -/
def State.clearEiDelay (s : State) : State := { s with cpu := { s.cpu with eiDelay := false } }

/-- What a step does before an instruction's Operation: `ei_delay <- 0`, and R advanced by the instruction's
increment (60_exceptions.md rule R503). -/
def State.beginInstr (s : State) (k : Nat) : State := s.clearEiDelay.refresh k

/-- A halted cycle (60_exceptions.md rule R512). -/
def State.haltedCycle (s : State) : State := s.clearEiDelay.refresh 1

/-- Taking an interrupt, what every entry has in common: `halted <- 0`, IFF1 <- 0, IFF2 as given, R advanced by 1, and
the pc pushed (60_exceptions.md rules R505 to R508). -/
def State.enterInterrupt (s : State) (iff2 : Bool) : State :=
  let s1 := { s with cpu := { s.cpu with halted := false, iff1 := false, iff2 := iff2 } }
  (s1.refresh 1).push16 s.cpu.pc

/-- Acceptance of the non-maskable interrupt (60_exceptions.md rule R505). -/
def State.acceptNmi (s : State) : State :=
  let s1 := { s with pins := { s.pins with nmiPending := false }, cpu := { s.cpu with eiDelay := false } }
  (s1.enterInterrupt s.cpu.iff2).setPc 0x0066#16

/-- The byte is an `RST` opcode, `11 yyy 111` (60_exceptions.md rule R506). -/
def isRst (v : Byte) : Bool := (v &&& 0xC7#8) == 0xC7#8

/-- Acceptance of a maskable interrupt, by IM (60_exceptions.md rules R506 to R508). In mode 0 a byte that is no
restart is refused (rule R506, U8). -/
def State.acceptInt (s : State) : Result :=
  match s.cpu.im with
  | .im0 =>
    if isRst s.pins.intData then
      .next ((s.enterInterrupt false).setPc (restartAddr (s.pins.intData.extractLsb' 3 3)))
    else .refused (.mode0Interrupt s.pins.intData)
  | .im1 => .next ((s.enterInterrupt false).setPc 0x0038#16)
  | .im2 =>
    let s1 := s.enterInterrupt false
    .next (s1.setPc (s1.readWord (mkWord s1.cpu.i (s1.pins.intData &&& 0xFE#8))))

/-- The end of an instruction that goes on in sequence: `pc <- pc + n`. -/
def State.done (s : State) (n : Nat) : Result := .next (s.advance n)

/-- The return every `RET` makes: `pc <- pop16()` (48_jump_call_return.md rules R395 to R398). -/
def State.returnFrom (s : State) : State :=
  let p := s.pop16
  p.2.setPc p.1

/-- `IFF1 <- IFF2` (48_jump_call_return.md rule R398). -/
def State.restoreIff (s : State) : State := { s with cpu := { s.cpu with iff1 := s.cpu.iff2 } }

end Sys2Proof.Machine
end

