-- ==== Sys2Proof/Syntax.lean ====
section
/-! DEFINITION. The instructions: one constructor per row of opcode_table.json, in the table's order, and the
operand codes they carry (30_encoding.md rules R103 to R111). A code that the table's constraints shut out has no
constructor, so no machine state ever sees one. -/

namespace Sys2Proof

/-- The 8-bit register codes (30_encoding.md rule R104); code 6 names no register and has no constructor. -/
inductive Reg8 where
  | b | c | d | e | h | l | a
  deriving DecidableEq, Repr

/-- The pairs `dd`/`ss` (30_encoding.md rule R105). -/
inductive Pair where
  | bc | de | hl | sp
  deriving DecidableEq, Repr

/-- The pairs `qq` of `PUSH` and `POP` (30_encoding.md rule R105). -/
inductive PairQ where
  | bc | de | hl | af
  deriving DecidableEq, Repr

/-- The pairs `pp` of `ADD IX,pp` and `rr` of `ADD IY,rr`: `idx` is the index register itself (rule R105). -/
inductive PairX where
  | bc | de | idx | sp
  deriving DecidableEq, Repr

/-- The condition codes (30_encoding.md rule R106, 10_state.md rule R28). -/
inductive Cond where
  | nz | z | nc | c | po | pe | p | m
  deriving DecidableEq, Repr

/-- The instructions. `n` is an 8-bit and `nn` a 16-bit immediate (rule R107), `d` an index displacement (rule
R108), `e` a relative displacement (rule R109), `b` a bit number (rule R110), `y` a restart number (rule R111). -/
inductive Instr where
  -- 40_load8.md
  /-- `LD r,r'` (rule R200). -/
  | ldRR (r : Reg8) (r' : Reg8)
  /-- `LD r,n` (rule R201). -/
  | ldRN (r : Reg8) (n : Byte)
  /-- `LD r,(HL)` (rule R202). -/
  | ldRHl (r : Reg8)
  /-- `LD r,(IX+d)` (rule R203). -/
  | ldRIxd (r : Reg8) (d : Byte)
  /-- `LD r,(IY+d)` (rule R204). -/
  | ldRIyd (r : Reg8) (d : Byte)
  /-- `LD (HL),r` (rule R205). -/
  | ldHlR (r : Reg8)
  /-- `LD (IX+d),r` (rule R206). -/
  | ldIxdR (d : Byte) (r : Reg8)
  /-- `LD (IY+d),r` (rule R207). -/
  | ldIydR (d : Byte) (r : Reg8)
  /-- `LD (HL),n` (rule R208). -/
  | ldHlN (n : Byte)
  /-- `LD (IX+d),n` (rule R209). -/
  | ldIxdN (d : Byte) (n : Byte)
  /-- `LD (IY+d),n` (rule R210). -/
  | ldIydN (d : Byte) (n : Byte)
  /-- `LD A,(BC)` (rule R211). -/
  | ldABc
  /-- `LD A,(DE)` (rule R212). -/
  | ldADe
  /-- `LD A,(nn)` (rule R213). -/
  | ldANn (nn : Word)
  /-- `LD (BC),A` (rule R214). -/
  | ldBcA
  /-- `LD (DE),A` (rule R215). -/
  | ldDeA
  /-- `LD (nn),A` (rule R216). -/
  | ldNnA (nn : Word)
  /-- `LD A,I` (rule R217). -/
  | ldAI
  /-- `LD A,R` (rule R218). -/
  | ldARefresh
  /-- `LD I,A` (rule R219). -/
  | ldIA
  /-- `LD R,A` (rule R220). -/
  | ldRefreshA
  -- 41_load16.md
  /-- `LD dd,nn` (rule R223). -/
  | ldDdNn (dd : Pair) (nn : Word)
  /-- `LD IX,nn` (rule R224). -/
  | ldIxNn (nn : Word)
  /-- `LD IY,nn` (rule R225). -/
  | ldIyNn (nn : Word)
  /-- `LD HL,(nn)` (rule R226). -/
  | ldHlMem (nn : Word)
  /-- `LD dd,(nn)` (rule R227). -/
  | ldDdMem (dd : Pair) (nn : Word)
  /-- `LD IX,(nn)` (rule R228). -/
  | ldIxMem (nn : Word)
  /-- `LD IY,(nn)` (rule R229). -/
  | ldIyMem (nn : Word)
  /-- `LD (nn),HL` (rule R230). -/
  | ldMemHl (nn : Word)
  /-- `LD (nn),dd` (rule R231). -/
  | ldMemDd (nn : Word) (dd : Pair)
  /-- `LD (nn),IX` (rule R232). -/
  | ldMemIx (nn : Word)
  /-- `LD (nn),IY` (rule R233). -/
  | ldMemIy (nn : Word)
  /-- `LD SP,HL` (rule R234). -/
  | ldSpHl
  /-- `LD SP,IX` (rule R235). -/
  | ldSpIx
  /-- `LD SP,IY` (rule R236). -/
  | ldSpIy
  /-- `PUSH qq` (rule R237). -/
  | pushQq (qq : PairQ)
  /-- `PUSH IX` (rule R238). -/
  | pushIx
  /-- `PUSH IY` (rule R239). -/
  | pushIy
  /-- `POP qq` (rule R240). -/
  | popQq (qq : PairQ)
  /-- `POP IX` (rule R241). -/
  | popIx
  /-- `POP IY` (rule R242). -/
  | popIy
  -- 42_exchange_block.md
  /-- `EX DE,HL` (rule R243). -/
  | exDeHl
  /-- `EX AF,AF'` (rule R244). -/
  | exAfAf
  /-- `EXX` (rule R245). -/
  | exx
  /-- `EX (SP),HL` (rule R246). -/
  | exSpHl
  /-- `EX (SP),IX` (rule R247). -/
  | exSpIx
  /-- `EX (SP),IY` (rule R248). -/
  | exSpIy
  /-- `LDI` (rule R249). -/
  | ldi
  /-- `LDIR` (rule R250). -/
  | ldir
  /-- `LDD` (rule R251). -/
  | ldd
  /-- `LDDR` (rule R252). -/
  | lddr
  /-- `CPI` (rule R253). -/
  | cpi
  /-- `CPIR` (rule R254). -/
  | cpir
  /-- `CPD` (rule R255). -/
  | cpd
  /-- `CPDR` (rule R256). -/
  | cpdr
  -- 43_arith8.md
  /-- `ADD A,r` (rule R262). -/
  | addAR (r : Reg8)
  /-- `ADD A,n` (rule R263). -/
  | addAN (n : Byte)
  /-- `ADD A,(HL)` (rule R264). -/
  | addAHl
  /-- `ADD A,(IX+d)` (rule R265). -/
  | addAIxd (d : Byte)
  /-- `ADD A,(IY+d)` (rule R266). -/
  | addAIyd (d : Byte)
  /-- `ADC A,r` (rule R267). -/
  | adcAR (r : Reg8)
  /-- `ADC A,n` (rule R268). -/
  | adcAN (n : Byte)
  /-- `ADC A,(HL)` (rule R269). -/
  | adcAHl
  /-- `ADC A,(IX+d)` (rule R270). -/
  | adcAIxd (d : Byte)
  /-- `ADC A,(IY+d)` (rule R271). -/
  | adcAIyd (d : Byte)
  /-- `SUB r` (rule R272). -/
  | subR (r : Reg8)
  /-- `SUB n` (rule R273). -/
  | subN (n : Byte)
  /-- `SUB (HL)` (rule R274). -/
  | subHl
  /-- `SUB (IX+d)` (rule R275). -/
  | subIxd (d : Byte)
  /-- `SUB (IY+d)` (rule R276). -/
  | subIyd (d : Byte)
  /-- `SBC A,r` (rule R277). -/
  | sbcAR (r : Reg8)
  /-- `SBC A,n` (rule R278). -/
  | sbcAN (n : Byte)
  /-- `SBC A,(HL)` (rule R279). -/
  | sbcAHl
  /-- `SBC A,(IX+d)` (rule R280). -/
  | sbcAIxd (d : Byte)
  /-- `SBC A,(IY+d)` (rule R281). -/
  | sbcAIyd (d : Byte)
  /-- `AND r` (rule R282). -/
  | andR (r : Reg8)
  /-- `AND n` (rule R283). -/
  | andN (n : Byte)
  /-- `AND (HL)` (rule R284). -/
  | andHl
  /-- `AND (IX+d)` (rule R285). -/
  | andIxd (d : Byte)
  /-- `AND (IY+d)` (rule R286). -/
  | andIyd (d : Byte)
  /-- `XOR r` (rule R287). -/
  | xorR (r : Reg8)
  /-- `XOR n` (rule R288). -/
  | xorN (n : Byte)
  /-- `XOR (HL)` (rule R289). -/
  | xorHl
  /-- `XOR (IX+d)` (rule R290). -/
  | xorIxd (d : Byte)
  /-- `XOR (IY+d)` (rule R291). -/
  | xorIyd (d : Byte)
  /-- `OR r` (rule R292). -/
  | orR (r : Reg8)
  /-- `OR n` (rule R293). -/
  | orN (n : Byte)
  /-- `OR (HL)` (rule R294). -/
  | orHl
  /-- `OR (IX+d)` (rule R295). -/
  | orIxd (d : Byte)
  /-- `OR (IY+d)` (rule R296). -/
  | orIyd (d : Byte)
  /-- `CP r` (rule R297). -/
  | cpR (r : Reg8)
  /-- `CP n` (rule R298). -/
  | cpN (n : Byte)
  /-- `CP (HL)` (rule R299). -/
  | cpHl
  /-- `CP (IX+d)` (rule R300). -/
  | cpIxd (d : Byte)
  /-- `CP (IY+d)` (rule R301). -/
  | cpIyd (d : Byte)
  /-- `INC r` (rule R302). -/
  | incR (r : Reg8)
  /-- `INC (HL)` (rule R303). -/
  | incHl
  /-- `INC (IX+d)` (rule R304). -/
  | incIxd (d : Byte)
  /-- `INC (IY+d)` (rule R305). -/
  | incIyd (d : Byte)
  /-- `DEC r` (rule R306). -/
  | decR (r : Reg8)
  /-- `DEC (HL)` (rule R307). -/
  | decHl
  /-- `DEC (IX+d)` (rule R308). -/
  | decIxd (d : Byte)
  /-- `DEC (IY+d)` (rule R309). -/
  | decIyd (d : Byte)
  -- 44_general_cpu_control.md
  /-- `DAA` (rule R310). -/
  | daa
  /-- `CPL` (rule R311). -/
  | cpl
  /-- `NEG` (rule R312). -/
  | neg
  /-- `CCF` (rule R313). -/
  | ccf
  /-- `SCF` (rule R314). -/
  | scf
  /-- `NOP` (rule R315). -/
  | nop
  /-- `HALT` (rule R316). -/
  | halt
  /-- `DI` (rule R317). -/
  | di
  /-- `EI` (rule R318). -/
  | ei
  /-- `IM 0` (rule R319). -/
  | im0
  /-- `IM 1` (rule R320). -/
  | im1
  /-- `IM 2` (rule R321). -/
  | im2
  -- 45_arith16.md
  /-- `ADD HL,ss` (rule R324). -/
  | addHlSs (ss : Pair)
  /-- `ADC HL,ss` (rule R325). -/
  | adcHlSs (ss : Pair)
  /-- `SBC HL,ss` (rule R326). -/
  | sbcHlSs (ss : Pair)
  /-- `ADD IX,pp` (rule R327). -/
  | addIxPp (pp : PairX)
  /-- `ADD IY,rr` (rule R328). -/
  | addIyRr (rr : PairX)
  /-- `INC ss` (rule R329). -/
  | incSs (ss : Pair)
  /-- `DEC ss` (rule R330). -/
  | decSs (ss : Pair)
  /-- `INC IX` (rule R331). -/
  | incIx
  /-- `DEC IX` (rule R332). -/
  | decIx
  /-- `INC IY` (rule R333). -/
  | incIy
  /-- `DEC IY` (rule R334). -/
  | decIy
  -- 46_rotate_shift.md
  /-- `RLCA` (rule R336). -/
  | rlca
  /-- `RLA` (rule R337). -/
  | rla
  /-- `RRCA` (rule R338). -/
  | rrca
  /-- `RRA` (rule R339). -/
  | rra
  /-- `RLC r` (rule R340). -/
  | rlcR (r : Reg8)
  /-- `RLC (HL)` (rule R341). -/
  | rlcHl
  /-- `RLC (IX+d)` (rule R342). -/
  | rlcIxd (d : Byte)
  /-- `RLC (IY+d)` (rule R343). -/
  | rlcIyd (d : Byte)
  /-- `RRC r` (rule R344). -/
  | rrcR (r : Reg8)
  /-- `RRC (HL)` (rule R345). -/
  | rrcHl
  /-- `RRC (IX+d)` (rule R346). -/
  | rrcIxd (d : Byte)
  /-- `RRC (IY+d)` (rule R347). -/
  | rrcIyd (d : Byte)
  /-- `RL r` (rule R348). -/
  | rlR (r : Reg8)
  /-- `RL (HL)` (rule R349). -/
  | rlHl
  /-- `RL (IX+d)` (rule R350). -/
  | rlIxd (d : Byte)
  /-- `RL (IY+d)` (rule R351). -/
  | rlIyd (d : Byte)
  /-- `RR r` (rule R352). -/
  | rrR (r : Reg8)
  /-- `RR (HL)` (rule R353). -/
  | rrHl
  /-- `RR (IX+d)` (rule R354). -/
  | rrIxd (d : Byte)
  /-- `RR (IY+d)` (rule R355). -/
  | rrIyd (d : Byte)
  /-- `SLA r` (rule R356). -/
  | slaR (r : Reg8)
  /-- `SLA (HL)` (rule R357). -/
  | slaHl
  /-- `SLA (IX+d)` (rule R358). -/
  | slaIxd (d : Byte)
  /-- `SLA (IY+d)` (rule R359). -/
  | slaIyd (d : Byte)
  /-- `SRA r` (rule R360). -/
  | sraR (r : Reg8)
  /-- `SRA (HL)` (rule R361). -/
  | sraHl
  /-- `SRA (IX+d)` (rule R362). -/
  | sraIxd (d : Byte)
  /-- `SRA (IY+d)` (rule R363). -/
  | sraIyd (d : Byte)
  /-- `SRL r` (rule R364). -/
  | srlR (r : Reg8)
  /-- `SRL (HL)` (rule R365). -/
  | srlHl
  /-- `SRL (IX+d)` (rule R366). -/
  | srlIxd (d : Byte)
  /-- `SRL (IY+d)` (rule R367). -/
  | srlIyd (d : Byte)
  /-- `RLD` (rule R368). -/
  | rld
  /-- `RRD` (rule R369). -/
  | rrd
  -- 47_bit.md
  /-- `BIT b,r` (rule R370). -/
  | bitBR (b : BitVec 3) (r : Reg8)
  /-- `BIT b,(HL)` (rule R371). -/
  | bitBHl (b : BitVec 3)
  /-- `BIT b,(IX+d)` (rule R372). -/
  | bitBIxd (b : BitVec 3) (d : Byte)
  /-- `BIT b,(IY+d)` (rule R373). -/
  | bitBIyd (b : BitVec 3) (d : Byte)
  /-- `SET b,r` (rule R374). -/
  | setBR (b : BitVec 3) (r : Reg8)
  /-- `SET b,(HL)` (rule R375). -/
  | setBHl (b : BitVec 3)
  /-- `SET b,(IX+d)` (rule R376). -/
  | setBIxd (b : BitVec 3) (d : Byte)
  /-- `SET b,(IY+d)` (rule R377). -/
  | setBIyd (b : BitVec 3) (d : Byte)
  /-- `RES b,r` (rule R378). -/
  | resBR (b : BitVec 3) (r : Reg8)
  /-- `RES b,(HL)` (rule R379). -/
  | resBHl (b : BitVec 3)
  /-- `RES b,(IX+d)` (rule R380). -/
  | resBIxd (b : BitVec 3) (d : Byte)
  /-- `RES b,(IY+d)` (rule R381). -/
  | resBIyd (b : BitVec 3) (d : Byte)
  -- 48_jump_call_return.md
  /-- `JP nn` (rule R382). -/
  | jpNn (nn : Word)
  /-- `JP cc,nn` (rule R383). -/
  | jpCcNn (cc : Cond) (nn : Word)
  /-- `JR e` (rule R384). -/
  | jrE (e : Byte)
  /-- `JR C,e` (rule R385). -/
  | jrCE (e : Byte)
  /-- `JR NC,e` (rule R386). -/
  | jrNcE (e : Byte)
  /-- `JR Z,e` (rule R387). -/
  | jrZE (e : Byte)
  /-- `JR NZ,e` (rule R388). -/
  | jrNzE (e : Byte)
  /-- `JP (HL)` (rule R389). -/
  | jpHl
  /-- `JP (IX)` (rule R390). -/
  | jpIx
  /-- `JP (IY)` (rule R391). -/
  | jpIy
  /-- `DJNZ e` (rule R392). -/
  | djnzE (e : Byte)
  /-- `CALL nn` (rule R393). -/
  | callNn (nn : Word)
  /-- `CALL cc,nn` (rule R394). -/
  | callCcNn (cc : Cond) (nn : Word)
  /-- `RET` (rule R395). -/
  | ret
  /-- `RET cc` (rule R396). -/
  | retCc (cc : Cond)
  /-- `RETI` (rule R397). -/
  | reti
  /-- `RETN` (rule R398). -/
  | retn
  /-- `RST p` (rule R399). -/
  | rstP (y : BitVec 3)
  -- 49_io.md
  /-- `IN A,(n)` (rule R400). -/
  | inAN (n : Byte)
  /-- `IN r,(C)` (rule R401). -/
  | inRC (r : Reg8)
  /-- `INI` (rule R402). -/
  | ini
  /-- `INIR` (rule R403). -/
  | inir
  /-- `IND` (rule R404). -/
  | ind
  /-- `INDR` (rule R405). -/
  | indr
  /-- `OUT (n),A` (rule R406). -/
  | outNA (n : Byte)
  /-- `OUT (C),r` (rule R407). -/
  | outCR (r : Reg8)
  /-- `OUTI` (rule R408). -/
  | outi
  /-- `OTIR` (rule R409). -/
  | otir
  /-- `OUTD` (rule R410). -/
  | outd
  /-- `OTDR` (rule R411). -/
  | otdr
  deriving DecidableEq, Repr

end Sys2Proof
end

