-- ==== Sys2Proof/Machine/Operands.lean ====
section
/-! DEFINITION. The operand forms: 8-bit registers, register pairs, index addresses, relative targets and conditions
(10_state.md rules R20 to R23, R28; 30_encoding.md rules R104 to R109). -/

namespace Sys2Proof.Machine

/-- `r[k]`. -/
def State.reg (s : State) (r : Reg8) : Byte :=
  match r with
  | .b => s.cpu.b
  | .c => s.cpu.c
  | .d => s.cpu.d
  | .e => s.cpu.e
  | .h => s.cpu.h
  | .l => s.cpu.l
  | .a => s.cpu.a

/-- `r[k] <- v`. -/
def State.setReg (s : State) (r : Reg8) (v : Byte) : State :=
  match r with
  | .b => { s with cpu := { s.cpu with b := v } }
  | .c => { s with cpu := { s.cpu with c := v } }
  | .d => { s with cpu := { s.cpu with d := v } }
  | .e => { s with cpu := { s.cpu with e := v } }
  | .h => { s with cpu := { s.cpu with h := v } }
  | .l => { s with cpu := { s.cpu with l := v } }
  | .a => { s with cpu := { s.cpu with a := v } }

/-- The pair BC (10_state.md rule R21). -/
def State.bc (s : State) : Word := mkWord s.cpu.b s.cpu.c

/-- The pair DE. -/
def State.de (s : State) : Word := mkWord s.cpu.d s.cpu.e

/-- The pair HL. -/
def State.hl (s : State) : Word := mkWord s.cpu.h s.cpu.l

/-- The pair AF: A high, all eight bits of F low. -/
def State.af (s : State) : Word := mkWord s.cpu.a s.cpu.f.toByte

/-- `BC <- v`: both halves (10_state.md rule R21). -/
def State.setBc (s : State) (v : Word) : State := { s with cpu := { s.cpu with b := hiByte v, c := loByte v } }

/-- `DE <- v`. -/
def State.setDe (s : State) (v : Word) : State := { s with cpu := { s.cpu with d := hiByte v, e := loByte v } }

/-- `HL <- v`. -/
def State.setHl (s : State) (v : Word) : State := { s with cpu := { s.cpu with h := hiByte v, l := loByte v } }

/-- `AF <- v`: A, and all eight bits of F (41_load16.md rule R240). -/
def State.setAf (s : State) (v : Word) : State :=
  { s with cpu := { s.cpu with a := hiByte v, f := Flags.ofByte (loByte v) } }

/-- `IX <- v`. -/
def State.setIx (s : State) (v : Word) : State := { s with cpu := { s.cpu with ix := v } }

/-- `IY <- v`. -/
def State.setIy (s : State) (v : Word) : State := { s with cpu := { s.cpu with iy := v } }

/-- `rp[p]` (30_encoding.md rule R105). -/
def State.pair (s : State) (p : Pair) : Word :=
  match p with
  | .bc => s.bc
  | .de => s.de
  | .hl => s.hl
  | .sp => s.cpu.sp

/-- `rp[p] <- v`. -/
def State.setPair (s : State) (p : Pair) (v : Word) : State :=
  match p with
  | .bc => s.setBc v
  | .de => s.setDe v
  | .hl => s.setHl v
  | .sp => s.setSp v

/-- `rp2[p]` (30_encoding.md rule R105). -/
def State.pairQ (s : State) (p : PairQ) : Word :=
  match p with
  | .bc => s.bc
  | .de => s.de
  | .hl => s.hl
  | .af => s.af

/-- `rp2[p] <- v`. -/
def State.setPairQ (s : State) (p : PairQ) (v : Word) : State :=
  match p with
  | .bc => s.setBc v
  | .de => s.setDe v
  | .hl => s.setHl v
  | .af => s.setAf v

/-- `[BC, DE, IX, SP][p]` for `ADD IX,pp` (45_arith16.md rule R327), and the same with IY for `ADD IY,rr` (rule
R328): `idx` is the index register's own value. -/
def State.pairX (s : State) (idx : Word) (p : PairX) : Word :=
  match p with
  | .bc => s.bc
  | .de => s.de
  | .idx => idx
  | .sp => s.cpu.sp

/-- The address of an `(IX+d)` operand (30_encoding.md rule R108). -/
def State.ixAddr (s : State) (d : Byte) : Word := s.cpu.ix + sext16 d

/-- The address of an `(IY+d)` operand. -/
def State.iyAddr (s : State) (d : Byte) : Word := s.cpu.iy + sext16 d

/-- The target of a relative jump (30_encoding.md rule R109). -/
def State.relTarget (s : State) (e : Byte) : Word := s.cpu.pc + 2#16 + sext16 e

/-- `A <- res ; F <- fl` for a helper's result and flags (43_arith8.md rule R262). -/
def State.setA (s : State) (p : Byte × Fl) : State := (s.setReg .a p.1).setFlags p.2

/-- `r[k] <- res ; F <- fl` (43_arith8.md rule R302). -/
def State.setRegFlags (s : State) (r : Reg8) (p : Byte × Fl) : State := (s.setReg r p.1).setFlags p.2

/-- `MemWrite(ea, 1, res) ; F <- fl`, the end of a read-modify-write (43_arith8.md rule R303). -/
def State.modify (s : State) (ea : Word) (p : Byte × Fl) : State := (s.writeByte ea p.1).setFlags p.2

/-- The end of a repeating instruction of two bytes: the same instruction again, unless it has ended
(42_exchange_block.md rule R250, 49_io.md rule R403). -/
def State.repeatUnless (s : State) (ended : Bool) : Result := if ended then s.done 2 else .next s

/-- `cond(cc)` (10_state.md rule R28). -/
def Flags.cond (f : Flags) (cc : Cond) : Bool :=
  match cc with
  | .nz => !f.z
  | .z => f.z
  | .nc => !f.c
  | .c => f.c
  | .po => !f.pv
  | .pe => f.pv
  | .p => !f.s
  | .m => f.s

end Sys2Proof.Machine
end

