-- ==== Sys2Proof/Machine/Arith16.lean ====
section
/-! DEFINITION. The 16-bit arithmetic group (45_arith16.md). -/

namespace Sys2Proof.Machine

/-- The flags of a 16-bit `ADD` (rule R324): H and C from `add16`, N = 0, S, Z, P/V kept. -/
def add16Flags (f : Flags) (r : Word × Bool × Bool) : Fl := keepSzp f r.2.1 false r.2.2

/-- `ADD HL,ss` (rule R324). -/
def execAddHlSs (ss : Pair) (s : State) : Result :=
  ((s.setHl (add16 s.hl (s.pair ss)).1).setFlags (add16Flags s.cpu.f (add16 s.hl (s.pair ss)))).done 1

/-- `ADC HL,ss` (rule R325). -/
def execAdcHlSs (ss : Pair) (s : State) : Result :=
  ((s.setHl (adc16 s.hl (s.pair ss) s.cpu.f.c).1).setFlags (adc16 s.hl (s.pair ss) s.cpu.f.c).2).done 2

/-- `SBC HL,ss` (rule R326). -/
def execSbcHlSs (ss : Pair) (s : State) : Result :=
  ((s.setHl (sbc16 s.hl (s.pair ss) s.cpu.f.c).1).setFlags (sbc16 s.hl (s.pair ss) s.cpu.f.c).2).done 2

/-- `ADD IX,pp` (rule R327). -/
def execAddIxPp (pp : PairX) (s : State) : Result :=
  ((s.setIx (add16 s.cpu.ix (s.pairX s.cpu.ix pp)).1).setFlags
    (add16Flags s.cpu.f (add16 s.cpu.ix (s.pairX s.cpu.ix pp)))).done 2

/-- `ADD IY,rr` (rule R328). -/
def execAddIyRr (rr : PairX) (s : State) : Result :=
  ((s.setIy (add16 s.cpu.iy (s.pairX s.cpu.iy rr)).1).setFlags
    (add16Flags s.cpu.f (add16 s.cpu.iy (s.pairX s.cpu.iy rr)))).done 2

/-- `INC ss` (rule R329). -/
def execIncSs (ss : Pair) (s : State) : Result :=
  (s.setPair ss (s.pair ss + 1#16)).done 1

/-- `DEC ss` (rule R330). -/
def execDecSs (ss : Pair) (s : State) : Result :=
  (s.setPair ss (s.pair ss - 1#16)).done 1

/-- `INC IX` (rule R331). -/
def execIncIx (s : State) : Result :=
  (s.setIx (s.cpu.ix + 1#16)).done 2

/-- `DEC IX` (rule R332). -/
def execDecIx (s : State) : Result :=
  (s.setIx (s.cpu.ix - 1#16)).done 2

/-- `INC IY` (rule R333). -/
def execIncIy (s : State) : Result :=
  (s.setIy (s.cpu.iy + 1#16)).done 2

/-- `DEC IY` (rule R334). -/
def execDecIy (s : State) : Result :=
  (s.setIy (s.cpu.iy - 1#16)).done 2

end Sys2Proof.Machine
end

