-- ==== Sys2Proof/Machine/Arith8.lean ====
section
/-! DEFINITION. The 8-bit arithmetic and logic group (43_arith8.md). -/

namespace Sys2Proof.Machine

/-- `ADD A,r` (rule R262). -/
def execAddAR (r : Reg8) (s : State) : Result :=
  (s.setA (add8 s.cpu.a (s.reg r) false)).done 1

/-- `ADD A,n` (rule R263). -/
def execAddAN (n : Byte) (s : State) : Result :=
  (s.setA (add8 s.cpu.a n false)).done 2

/-- `ADD A,(HL)` (rule R264). -/
def execAddAHl (s : State) : Result :=
  (s.setA (add8 s.cpu.a (s.readByte s.hl) false)).done 1

/-- `ADD A,(IX+d)` (rule R265). -/
def execAddAIxd (d : Byte) (s : State) : Result :=
  (s.setA (add8 s.cpu.a (s.readByte (s.ixAddr d)) false)).done 3

/-- `ADD A,(IY+d)` (rule R266). -/
def execAddAIyd (d : Byte) (s : State) : Result :=
  (s.setA (add8 s.cpu.a (s.readByte (s.iyAddr d)) false)).done 3

/-- `ADC A,r` (rule R267). -/
def execAdcAR (r : Reg8) (s : State) : Result :=
  (s.setA (add8 s.cpu.a (s.reg r) s.cpu.f.c)).done 1

/-- `ADC A,n` (rule R268). -/
def execAdcAN (n : Byte) (s : State) : Result :=
  (s.setA (add8 s.cpu.a n s.cpu.f.c)).done 2

/-- `ADC A,(HL)` (rule R269). -/
def execAdcAHl (s : State) : Result :=
  (s.setA (add8 s.cpu.a (s.readByte s.hl) s.cpu.f.c)).done 1

/-- `ADC A,(IX+d)` (rule R270). -/
def execAdcAIxd (d : Byte) (s : State) : Result :=
  (s.setA (add8 s.cpu.a (s.readByte (s.ixAddr d)) s.cpu.f.c)).done 3

/-- `ADC A,(IY+d)` (rule R271). -/
def execAdcAIyd (d : Byte) (s : State) : Result :=
  (s.setA (add8 s.cpu.a (s.readByte (s.iyAddr d)) s.cpu.f.c)).done 3

/-- `SUB r` (rule R272). -/
def execSubR (r : Reg8) (s : State) : Result :=
  (s.setA (sub8 s.cpu.a (s.reg r) false)).done 1

/-- `SUB n` (rule R273). -/
def execSubN (n : Byte) (s : State) : Result :=
  (s.setA (sub8 s.cpu.a n false)).done 2

/-- `SUB (HL)` (rule R274). -/
def execSubHl (s : State) : Result :=
  (s.setA (sub8 s.cpu.a (s.readByte s.hl) false)).done 1

/-- `SUB (IX+d)` (rule R275). -/
def execSubIxd (d : Byte) (s : State) : Result :=
  (s.setA (sub8 s.cpu.a (s.readByte (s.ixAddr d)) false)).done 3

/-- `SUB (IY+d)` (rule R276). -/
def execSubIyd (d : Byte) (s : State) : Result :=
  (s.setA (sub8 s.cpu.a (s.readByte (s.iyAddr d)) false)).done 3

/-- `SBC A,r` (rule R277). -/
def execSbcAR (r : Reg8) (s : State) : Result :=
  (s.setA (sub8 s.cpu.a (s.reg r) s.cpu.f.c)).done 1

/-- `SBC A,n` (rule R278). -/
def execSbcAN (n : Byte) (s : State) : Result :=
  (s.setA (sub8 s.cpu.a n s.cpu.f.c)).done 2

/-- `SBC A,(HL)` (rule R279). -/
def execSbcAHl (s : State) : Result :=
  (s.setA (sub8 s.cpu.a (s.readByte s.hl) s.cpu.f.c)).done 1

/-- `SBC A,(IX+d)` (rule R280). -/
def execSbcAIxd (d : Byte) (s : State) : Result :=
  (s.setA (sub8 s.cpu.a (s.readByte (s.ixAddr d)) s.cpu.f.c)).done 3

/-- `SBC A,(IY+d)` (rule R281). -/
def execSbcAIyd (d : Byte) (s : State) : Result :=
  (s.setA (sub8 s.cpu.a (s.readByte (s.iyAddr d)) s.cpu.f.c)).done 3

/-- `AND r` (rule R282). -/
def execAndR (r : Reg8) (s : State) : Result :=
  (s.setA (and8 s.cpu.a (s.reg r))).done 1

/-- `AND n` (rule R283). -/
def execAndN (n : Byte) (s : State) : Result :=
  (s.setA (and8 s.cpu.a n)).done 2

/-- `AND (HL)` (rule R284). -/
def execAndHl (s : State) : Result :=
  (s.setA (and8 s.cpu.a (s.readByte s.hl))).done 1

/-- `AND (IX+d)` (rule R285). -/
def execAndIxd (d : Byte) (s : State) : Result :=
  (s.setA (and8 s.cpu.a (s.readByte (s.ixAddr d)))).done 3

/-- `AND (IY+d)` (rule R286). -/
def execAndIyd (d : Byte) (s : State) : Result :=
  (s.setA (and8 s.cpu.a (s.readByte (s.iyAddr d)))).done 3

/-- `XOR r` (rule R287). -/
def execXorR (r : Reg8) (s : State) : Result :=
  (s.setA (xor8 s.cpu.a (s.reg r))).done 1

/-- `XOR n` (rule R288). -/
def execXorN (n : Byte) (s : State) : Result :=
  (s.setA (xor8 s.cpu.a n)).done 2

/-- `XOR (HL)` (rule R289). -/
def execXorHl (s : State) : Result :=
  (s.setA (xor8 s.cpu.a (s.readByte s.hl))).done 1

/-- `XOR (IX+d)` (rule R290). -/
def execXorIxd (d : Byte) (s : State) : Result :=
  (s.setA (xor8 s.cpu.a (s.readByte (s.ixAddr d)))).done 3

/-- `XOR (IY+d)` (rule R291). -/
def execXorIyd (d : Byte) (s : State) : Result :=
  (s.setA (xor8 s.cpu.a (s.readByte (s.iyAddr d)))).done 3

/-- `OR r` (rule R292). -/
def execOrR (r : Reg8) (s : State) : Result :=
  (s.setA (or8 s.cpu.a (s.reg r))).done 1

/-- `OR n` (rule R293). -/
def execOrN (n : Byte) (s : State) : Result :=
  (s.setA (or8 s.cpu.a n)).done 2

/-- `OR (HL)` (rule R294). -/
def execOrHl (s : State) : Result :=
  (s.setA (or8 s.cpu.a (s.readByte s.hl))).done 1

/-- `OR (IX+d)` (rule R295). -/
def execOrIxd (d : Byte) (s : State) : Result :=
  (s.setA (or8 s.cpu.a (s.readByte (s.ixAddr d)))).done 3

/-- `OR (IY+d)` (rule R296). -/
def execOrIyd (d : Byte) (s : State) : Result :=
  (s.setA (or8 s.cpu.a (s.readByte (s.iyAddr d)))).done 3

/-- `CP r` (rule R297). -/
def execCpR (r : Reg8) (s : State) : Result :=
  (s.setFlags (sub8 s.cpu.a (s.reg r) false).2).done 1

/-- `CP n` (rule R298). -/
def execCpN (n : Byte) (s : State) : Result :=
  (s.setFlags (sub8 s.cpu.a n false).2).done 2

/-- `CP (HL)` (rule R299). -/
def execCpHl (s : State) : Result :=
  (s.setFlags (sub8 s.cpu.a (s.readByte s.hl) false).2).done 1

/-- `CP (IX+d)` (rule R300). -/
def execCpIxd (d : Byte) (s : State) : Result :=
  (s.setFlags (sub8 s.cpu.a (s.readByte (s.ixAddr d)) false).2).done 3

/-- `CP (IY+d)` (rule R301). -/
def execCpIyd (d : Byte) (s : State) : Result :=
  (s.setFlags (sub8 s.cpu.a (s.readByte (s.iyAddr d)) false).2).done 3

/-- `INC r` (rule R302). -/
def execIncR (r : Reg8) (s : State) : Result :=
  (s.setRegFlags r (inc8 (s.reg r) s.cpu.f.c)).done 1

/-- `INC (HL)` (rule R303). -/
def execIncHl (s : State) : Result :=
  (s.modify s.hl (inc8 (s.readByte s.hl) s.cpu.f.c)).done 1

/-- `INC (IX+d)` (rule R304). -/
def execIncIxd (d : Byte) (s : State) : Result :=
  (s.modify (s.ixAddr d) (inc8 (s.readByte (s.ixAddr d)) s.cpu.f.c)).done 3

/-- `INC (IY+d)` (rule R305). -/
def execIncIyd (d : Byte) (s : State) : Result :=
  (s.modify (s.iyAddr d) (inc8 (s.readByte (s.iyAddr d)) s.cpu.f.c)).done 3

/-- `DEC r` (rule R306). -/
def execDecR (r : Reg8) (s : State) : Result :=
  (s.setRegFlags r (dec8 (s.reg r) s.cpu.f.c)).done 1

/-- `DEC (HL)` (rule R307). -/
def execDecHl (s : State) : Result :=
  (s.modify s.hl (dec8 (s.readByte s.hl) s.cpu.f.c)).done 1

/-- `DEC (IX+d)` (rule R308). -/
def execDecIxd (d : Byte) (s : State) : Result :=
  (s.modify (s.ixAddr d) (dec8 (s.readByte (s.ixAddr d)) s.cpu.f.c)).done 3

/-- `DEC (IY+d)` (rule R309). -/
def execDecIyd (d : Byte) (s : State) : Result :=
  (s.modify (s.iyAddr d) (dec8 (s.readByte (s.iyAddr d)) s.cpu.f.c)).done 3

end Sys2Proof.Machine
end

