-- ==== Sys2Proof/Machine/Bit.lean ====
section
/-! DEFINITION. The bit test, set and reset group (47_bit.md). -/

namespace Sys2Proof.Machine

/-- `BIT b,r` (rule R370). -/
def execBitBR (b : BitVec 3) (r : Reg8) (s : State) : Result :=
  (s.setFlags (bitFlags b (s.reg r) s.cpu.f.c)).done 2

/-- `BIT b,(HL)` (rule R371). -/
def execBitBHl (b : BitVec 3) (s : State) : Result :=
  (s.setFlags (bitFlags b (s.readByte s.hl) s.cpu.f.c)).done 2

/-- `BIT b,(IX+d)` (rule R372). -/
def execBitBIxd (b : BitVec 3) (d : Byte) (s : State) : Result :=
  (s.setFlags (bitFlags b (s.readByte (s.ixAddr d)) s.cpu.f.c)).done 4

/-- `BIT b,(IY+d)` (rule R373). -/
def execBitBIyd (b : BitVec 3) (d : Byte) (s : State) : Result :=
  (s.setFlags (bitFlags b (s.readByte (s.iyAddr d)) s.cpu.f.c)).done 4

/-- `SET b,r` (rule R374). -/
def execSetBR (b : BitVec 3) (r : Reg8) (s : State) : Result :=
  (s.setReg r (setBit8 b (s.reg r))).done 2

/-- `SET b,(HL)` (rule R375). -/
def execSetBHl (b : BitVec 3) (s : State) : Result :=
  (s.writeByte s.hl (setBit8 b (s.readByte s.hl))).done 2

/-- `SET b,(IX+d)` (rule R376). -/
def execSetBIxd (b : BitVec 3) (d : Byte) (s : State) : Result :=
  (s.writeByte (s.ixAddr d) (setBit8 b (s.readByte (s.ixAddr d)))).done 4

/-- `SET b,(IY+d)` (rule R377). -/
def execSetBIyd (b : BitVec 3) (d : Byte) (s : State) : Result :=
  (s.writeByte (s.iyAddr d) (setBit8 b (s.readByte (s.iyAddr d)))).done 4

/-- `RES b,r` (rule R378). -/
def execResBR (b : BitVec 3) (r : Reg8) (s : State) : Result :=
  (s.setReg r (resBit8 b (s.reg r))).done 2

/-- `RES b,(HL)` (rule R379). -/
def execResBHl (b : BitVec 3) (s : State) : Result :=
  (s.writeByte s.hl (resBit8 b (s.readByte s.hl))).done 2

/-- `RES b,(IX+d)` (rule R380). -/
def execResBIxd (b : BitVec 3) (d : Byte) (s : State) : Result :=
  (s.writeByte (s.ixAddr d) (resBit8 b (s.readByte (s.ixAddr d)))).done 4

/-- `RES b,(IY+d)` (rule R381). -/
def execResBIyd (b : BitVec 3) (d : Byte) (s : State) : Result :=
  (s.writeByte (s.iyAddr d) (resBit8 b (s.readByte (s.iyAddr d)))).done 4

end Sys2Proof.Machine
end

