-- ==== Sys2Proof/Machine/Control.lean ====
section
/-! DEFINITION. The general-purpose arithmetic and CPU control group (44_general_cpu_control.md). -/

namespace Sys2Proof.Machine

/-- The flags of `CPL` (rule R311): H = N = 1, the others kept. -/
def cplFlags (f : Flags) : Fl where
  s  := f.s
  z  := f.z
  h  := true
  pv := f.pv
  n  := true
  c  := f.c

/-- `DAA` (rule R310). -/
def execDaa (s : State) : Result :=
  (s.setA (daa8 s.cpu.a s.cpu.f.h s.cpu.f.n s.cpu.f.c)).done 1

/-- `CPL` (rule R311). -/
def execCpl (s : State) : Result :=
  ((s.setReg .a (s.cpu.a ^^^ 0xFF#8)).setFlags (cplFlags s.cpu.f)).done 1

/-- `NEG` (rule R312). -/
def execNeg (s : State) : Result :=
  (s.setA (sub8 0x00#8 s.cpu.a false)).done 2

/-- `CCF` (rule R313). -/
def execCcf (s : State) : Result :=
  (s.setFlags (keepSzp s.cpu.f s.cpu.f.c false (!s.cpu.f.c))).done 1

/-- `SCF` (rule R314). -/
def execScf (s : State) : Result :=
  (s.setFlags (keepSzp s.cpu.f false false true)).done 1

/-- `NOP` (rule R315). -/
def execNop (s : State) : Result :=
  s.done 1

/-- `HALT` (rule R316). -/
def execHalt (s : State) : Result :=
  State.done { s with cpu := { s.cpu with halted := true } } 1

/-- `DI` (rule R317). -/
def execDi (s : State) : Result :=
  State.done { s with cpu := { s.cpu with iff1 := false, iff2 := false } } 1

/-- `EI` (rule R318). -/
def execEi (s : State) : Result :=
  State.done { s with cpu := { s.cpu with iff1 := true, iff2 := true, eiDelay := true } } 1

/-- `IM 0` (rule R319). -/
def execIm0 (s : State) : Result :=
  State.done { s with cpu := { s.cpu with im := .im0 } } 2

/-- `IM 1` (rule R320). -/
def execIm1 (s : State) : Result :=
  State.done { s with cpu := { s.cpu with im := .im1 } } 2

/-- `IM 2` (rule R321). -/
def execIm2 (s : State) : Result :=
  State.done { s with cpu := { s.cpu with im := .im2 } } 2

end Sys2Proof.Machine
end

