-- ==== Sys2Proof/Machine/Exchange.lean ====
section
/-! DEFINITION. The exchange, block transfer and block search group (42_exchange_block.md). One execution of a repeating
instruction is one iteration. -/

namespace Sys2Proof.Machine

/-- The store of `EX (SP),..`: the high byte at SP + 1, then the low byte at SP (rules R246 to R248). -/
def State.storeTop (s : State) (v : Word) : State :=
  (s.writeByte (s.cpu.sp + 1#16) (hiByte v)).writeByte s.cpu.sp (loByte v)

/-- One byte moved from (HL) to (DE), HL and DE moved by `step`, BC decremented, the flags (rules R249 to R252). -/
def State.blockLoad (s : State) (step : Word) : State :=
  let s1 := s.writeByte s.de (s.readByte s.hl)
  let s2 := ((s1.setHl (s.hl + step)).setDe (s.de + step)).setBc (s.bc - 1#16)
  s2.setFlags (blockLoadFlags s.cpu.f (s.bc - 1#16))

/-- A compared with the byte at (HL), HL moved by `step`, BC decremented, the flags (rules R253 to R256). -/
def State.blockCompare (s : State) (step : Word) : State :=
  let cmp := (sub8 s.cpu.a (s.readByte s.hl) false).2
  ((s.setHl (s.hl + step)).setBc (s.bc - 1#16)).setFlags (blockCompareFlags cmp (s.bc - 1#16) s.cpu.f.c)

/-- `EX DE,HL` (rule R243). -/
def execExDeHl (s : State) : Result :=
  ((s.setDe s.hl).setHl s.de).done 1

/-- `EX AF,AF'` (rule R244). -/
def execExAfAf (s : State) : Result :=
  State.done
    { s with cpu := { s.cpu with a := s.cpu.shA, f := s.cpu.shF, shA := s.cpu.a, shF := s.cpu.f } } 1

/-- `EXX` (rule R245). -/
def execExx (s : State) : Result :=
  State.done
    { s with
      cpu := { s.cpu with
        b := s.cpu.shB, c := s.cpu.shC, d := s.cpu.shD, e := s.cpu.shE, h := s.cpu.shH, l := s.cpu.shL
        shB := s.cpu.b, shC := s.cpu.c, shD := s.cpu.d, shE := s.cpu.e, shH := s.cpu.h, shL := s.cpu.l } } 1

/-- `EX (SP),HL` (rule R246). -/
def execExSpHl (s : State) : Result :=
  ((s.storeTop s.hl).setHl (s.readWord s.cpu.sp)).done 1

/-- `EX (SP),IX` (rule R247). -/
def execExSpIx (s : State) : Result :=
  ((s.storeTop s.cpu.ix).setIx (s.readWord s.cpu.sp)).done 2

/-- `EX (SP),IY` (rule R248). -/
def execExSpIy (s : State) : Result :=
  ((s.storeTop s.cpu.iy).setIy (s.readWord s.cpu.sp)).done 2

/-- `LDI` (rule R249). -/
def execLdi (s : State) : Result :=
  (s.blockLoad 1#16).done 2

/-- `LDIR` (rule R250). -/
def execLdir (s : State) : Result :=
  (s.blockLoad 1#16).repeatUnless ((s.blockLoad 1#16).bc == 0#16)

/-- `LDD` (rule R251). -/
def execLdd (s : State) : Result :=
  (s.blockLoad (-1#16)).done 2

/-- `LDDR` (rule R252). -/
def execLddr (s : State) : Result :=
  (s.blockLoad (-1#16)).repeatUnless ((s.blockLoad (-1#16)).bc == 0#16)

/-- `CPI` (rule R253). -/
def execCpi (s : State) : Result :=
  (s.blockCompare 1#16).done 2

/-- `CPIR` (rule R254). -/
def execCpir (s : State) : Result :=
  (s.blockCompare 1#16).repeatUnless
    ((s.blockCompare 1#16).bc == 0#16 || (s.blockCompare 1#16).cpu.f.z)

/-- `CPD` (rule R255). -/
def execCpd (s : State) : Result :=
  (s.blockCompare (-1#16)).done 2

/-- `CPDR` (rule R256). -/
def execCpdr (s : State) : Result :=
  (s.blockCompare (-1#16)).repeatUnless
    ((s.blockCompare (-1#16)).bc == 0#16 || (s.blockCompare (-1#16)).cpu.f.z)

end Sys2Proof.Machine
end

