-- ==== Sys2Proof/Machine/Ports.lean ====
section
/-! DEFINITION. The I/O port dispatcher (20_memory.md rules R67, R70 to R76) and the device registers behind it: console
UART, disk controller, NVRAM (60_exceptions.md rules R520 to R541, R553 to R555). -/

namespace Sys2Proof.Machine

/-- The device register behind a port (20_memory.md rule R71). -/
inductive PortReg where
  | uartData
  | uartStatus
  | dkUnit
  | dkLba (k : Fin 4)
  | dkCommand
  | dkData
  | dkSlices
  | nvAddr
  | nvData
  | bank (w : Nat)
  | unmapped
  deriving DecidableEq, Repr

/-- The window whose bank port is `p`, counting windows from `w`. -/
def bankWindow : List (Option Byte) → Byte → Nat → Option Nat
  | [], _, _ => none
  | q :: qs, p, w => if q = some p then some w else bankWindow qs p (w + 1)

/-- The port table (20_memory.md rule R71). -/
def portReg (cfg : Config) (p : Byte) : PortReg :=
  if p = cfg.uartData then .uartData
  else if p = cfg.uartStatus then .uartStatus
  else if p = cfg.diskBase then .dkUnit
  else if p = cfg.diskBase + 1#8 then .dkLba 0
  else if p = cfg.diskBase + 2#8 then .dkLba 1
  else if p = cfg.diskBase + 3#8 then .dkLba 2
  else if p = cfg.diskBase + 4#8 then .dkLba 3
  else if p = cfg.diskBase + 5#8 then .dkCommand
  else if p = cfg.diskBase + 6#8 then .dkData
  else if p = cfg.diskBase + 7#8 then .dkSlices
  else if p = cfg.nvAddr then .nvAddr
  else if p = cfg.nvData then .nvData
  else
    match bankWindow cfg.bankPort p 0 with
    | some w => .bank w
    | none => .unmapped

/-- `BANK_DECODE(v)` (00_scope.md rule R5). -/
def bankDecode (d : BankDecode) (v : Byte) : Nat :=
  match d with
  | .modulo m => v.toNat % m
  | .table pages => pages.getD v.toNat 0

/-- `map[w] <- BANK_DECODE(v)` (20_memory.md rule R67). -/
def State.bankSelect (s : State) (w : Nat) (v : Byte) : State :=
  { s with mem := { s.mem with map := s.mem.map.set w (bankDecode s.cfg.bankDecode v) } }

/-- The UART status byte (60_exceptions.md rule R521). -/
def Uart.status (u : Uart) : Byte := if u.rx.isEmpty then 0x02#8 else 0x03#8

/-- A read of `UART_DATA` (60_exceptions.md rule R522). -/
def Uart.receive (u : Uart) (emptyValue : Byte) : Byte × Uart :=
  match u.rx with
  | [] => (emptyValue, u)
  | v :: rest => (v, { u with rx := rest })

/-- A write to `UART_DATA` (60_exceptions.md rule R523). -/
def Uart.transmit (u : Uart) (v : Byte) : Uart := { u with tx := u.tx ++ [v] }

/-- The record of a disk unit. -/
def Disk.unitAt (d : Disk) (u : BitVec 4) : DiskUnit := d.units[u.toNat]'(u.isLt)

/-- The controller with the record of a disk unit replaced. -/
def Disk.setUnit (d : Disk) (u : BitVec 4) (r : DiskUnit) : Disk := { d with units := d.units.set u.toNat r u.isLt }

/-- Byte `k` of `dk_lba` (60_exceptions.md rule R532). -/
def lbaByte (lba : BitVec 32) (k : Fin 4) : Byte := lba.extractLsb' (8 * k.val) 8

/-- `dk_lba` with byte `k` replaced (60_exceptions.md rule R532). -/
def setLbaByte (lba : BitVec 32) (k : Fin 4) (v : Byte) : BitVec 32 :=
  match k with
  | 0 => lba.extractLsb' 8 24 ++ v
  | 1 => lba.extractLsb' 16 16 ++ v ++ lba.extractLsb' 0 8
  | 2 => lba.extractLsb' 24 8 ++ v ++ lba.extractLsb' 0 16
  | 3 => v ++ lba.extractLsb' 0 24

/-- The disk status byte: DRQ, ERR, LOADED in bits 0, 1, 2 (60_exceptions.md rule R533). -/
def Disk.status (d : Disk) : Byte :=
  bit (d.dkState != .idle) ||| (bit d.dkErr <<< 1) ||| (bit (d.unitAt d.dkUnit).loaded <<< 2)

/-- The selected sector exists: the unit is loaded and the sector number is below its total (60_exceptions.md rule
R534). -/
def Disk.sectorExists (d : Disk) : Bool :=
  (d.unitAt d.dkUnit).loaded && decide (d.dkLba.toNat < (d.unitAt d.dkUnit).total)

/-- `readSector(lba)` of an image (60_exceptions.md rule R538). -/
def readSector (image : List Byte) (sectorSize lba : Nat) : List Byte :=
  (image.drop (lba * sectorSize)).take sectorSize

/-- `writeSector(lba, bytes)` of an image (60_exceptions.md rule R538). -/
def writeSector (image : List Byte) (sectorSize lba : Nat) (bytes : List Byte) : List Byte :=
  image.take (lba * sectorSize) ++ bytes ++ image.drop (lba * sectorSize + sectorSize)

/-- A write of a command to CMD (60_exceptions.md rule R534). -/
def Disk.command (d : Disk) (sectorSize : Nat) (v : Byte) : Disk :=
  let d0 := { d with dkState := .idle, dkIdx := 0 }
  if v = 0x00#8 then { d0 with dkErr := false }
  else if v = 0x01#8 then
    if d.sectorExists then
      { d0 with
        dkBuf := readSector (d.unitAt d.dkUnit).image sectorSize d.dkLba.toNat
        dkCurUnit := d.dkUnit
        dkCurLba := d.dkLba
        dkState := .readXfer
        dkErr := false }
    else { d0 with dkErr := true }
  else if v = 0x02#8 then
    if d.sectorExists then
      { d0 with dkCurUnit := d.dkUnit, dkCurLba := d.dkLba, dkState := .writeXfer, dkErr := false }
    else { d0 with dkErr := true }
  else { d0 with dkErr := true }

/-- A read of DATA (60_exceptions.md rule R535). -/
def Disk.dataRead (d : Disk) (sectorSize : Nat) (idle : Byte) : Byte × Disk :=
  match d.dkState with
  | .readXfer =>
    (d.dkBuf.getD d.dkIdx 0x00#8,
      if d.dkIdx + 1 = sectorSize then { d with dkState := .idle, dkIdx := 0 } else { d with dkIdx := d.dkIdx + 1 })
  | .idle => (idle, d)
  | .writeXfer => (idle, d)

/-- The commit of a written sector (60_exceptions.md rule R536). -/
def Disk.commit (d : Disk) (sectorSize : Nat) : Disk :=
  let r := d.unitAt d.dkCurUnit
  let d1 := d.setUnit d.dkCurUnit
    { r with image := writeSector r.image sectorSize d.dkCurLba.toNat d.dkBuf, dirty := true }
  { d1 with
    manifestWarning := d.manifestWarning || (r.manifest && !r.warnSuppressed)
    dkState := .idle
    dkIdx := 0 }

/-- A write of DATA (60_exceptions.md rule R536). -/
def Disk.dataWrite (d : Disk) (sectorSize : Nat) (v : Byte) : Disk :=
  match d.dkState with
  | .writeXfer =>
    let d1 := { d with dkBuf := d.dkBuf.set d.dkIdx v }
    if d.dkIdx + 1 = sectorSize then d1.commit sectorSize else { d1 with dkIdx := d.dkIdx + 1 }
  | .idle => d
  | .readXfer => d

/-- `nv[k]` for `k` in 0 to 4 (10_state.md rule R45). -/
def NvRecord.get (nv : NvRecord) (k : Nat) : Option Byte :=
  match k with
  | 0 => some nv.signature
  | 1 => some nv.selector
  | 2 => some nv.unit
  | 3 => some nv.slice
  | 4 => some nv.checksum
  | _ => none

/-- `NV_CHECKSUM(b0, b1, b2, b3)` (00_scope.md rule R5). -/
def nvChecksum (k : NvChecksum) (b0 b1 b2 b3 : Byte) : Byte :=
  match k with
  | .xor => b0 ^^^ b1 ^^^ b2 ^^^ b3
  | .free j => Config.checksumFn j b0 b1 b2 b3

/-- The record with its checksum recomputed (60_exceptions.md rule R550). -/
def NvRecord.sealed (nv : NvRecord) (k : NvChecksum) : NvRecord :=
  { nv with checksum := nvChecksum k nv.signature nv.selector nv.unit nv.slice }

/-- A read of `NV_DATA` (60_exceptions.md rule R554). -/
def Nvram.dataRead (n : Nvram) (idle : Byte) : Byte := (n.record.get n.addr.toNat).getD idle

/-- A write of `NV_DATA` (60_exceptions.md rule R555). -/
def Nvram.dataWrite (n : Nvram) (k : NvChecksum) (v : Byte) : Nvram :=
  match n.addr.toNat with
  | 0 => { n with record := { n.record with signature := v }.sealed k, dirty := true }
  | 1 => { n with record := { n.record with selector := v }.sealed k, dirty := true }
  | 2 => { n with record := { n.record with unit := v }.sealed k, dirty := true }
  | 3 => { n with record := { n.record with slice := v }.sealed k, dirty := true }
  | _ => n

/-- `IoRead(addr)`: the byte, and the state with the read's side effects (20_memory.md rules R70, R75, R76). -/
def State.ioRead (s : State) (addr : Word) : Byte × State :=
  match portReg s.cfg (loByte addr) with
  | .uartData =>
    let p := s.uart.receive s.cfg.uartEmptyValue
    (p.1, { s with uart := p.2 })
  | .uartStatus => (s.uart.status, s)
  | .dkUnit => (s.disk.dkUnit.setWidth 8, s)
  | .dkLba k => (lbaByte s.disk.dkLba k, s)
  | .dkCommand => (s.disk.status, s)
  | .dkData =>
    let p := s.disk.dataRead s.cfg.sectorSize s.cfg.idleValue
    (p.1, { s with disk := p.2 })
  | .dkSlices => (BitVec.ofNat 8 (s.disk.unitAt s.disk.dkUnit).slices, s)
  | .nvAddr => (s.nvram.addr, s)
  | .nvData => (s.nvram.dataRead s.cfg.idleValue, s)
  | .bank _ => (s.cfg.idleValue, s)
  | .unmapped => (s.cfg.idleValue, s)

/-- `IoWrite(addr, v)` (20_memory.md rules R70, R75). -/
def State.ioWrite (s : State) (addr : Word) (v : Byte) : State :=
  match portReg s.cfg (loByte addr) with
  | .uartData => { s with uart := s.uart.transmit v }
  | .uartStatus => s
  | .dkUnit => { s with disk := { s.disk with dkUnit := v.extractLsb' 0 4 } }
  | .dkLba k => { s with disk := { s.disk with dkLba := setLbaByte s.disk.dkLba k v } }
  | .dkCommand => { s with disk := s.disk.command s.cfg.sectorSize v }
  | .dkData => { s with disk := s.disk.dataWrite s.cfg.sectorSize v }
  | .dkSlices => s
  | .nvAddr => { s with nvram := { s.nvram with addr := v } }
  | .nvData => { s with nvram := s.nvram.dataWrite s.cfg.nvChecksum v }
  | .bank w => s.bankSelect w v
  | .unmapped => s

end Sys2Proof.Machine
end

