-- ==== Sys2Proof/Machine/Io.lean ====
section
/-! DEFINITION. The input and output group (49_io.md). One execution of a repeating instruction is one iteration. -/

namespace Sys2Proof.Machine

/-- A byte read from the port addressed by BC and stored at (HL), HL moved by `step`, B decremented, the flags (rules
R402 to R405). -/
def State.blockIn (s : State) (step : Word) : State :=
  let p := s.ioRead s.bc
  let s1 := p.2.writeByte s.hl p.1
  ((s1.setHl (s.hl + step)).setReg .b (s.cpu.b - 1#8)).setFlagsBlockIo (s.cpu.b - 1#8 == 0#8)

/-- The byte at (HL) written to the port addressed by BC with B already decremented, HL moved by `step`, the flags
(rules R408 to R411). -/
def State.blockOut (s : State) (step : Word) : State :=
  let v := s.readByte s.hl
  let s1 := s.setReg .b (s.cpu.b - 1#8)
  ((s1.ioWrite s1.bc v).setHl (s.hl + step)).setFlagsBlockIo (s.cpu.b - 1#8 == 0#8)

/-- `IN A,(n)` (rule R400). -/
def execInAN (n : Byte) (s : State) : Result :=
  ((s.ioRead (mkWord s.cpu.a n)).2.setReg .a (s.ioRead (mkWord s.cpu.a n)).1).done 2

/-- `IN r,(C)` (rule R401). -/
def execInRC (r : Reg8) (s : State) : Result :=
  (((s.ioRead s.bc).2.setReg r (s.ioRead s.bc).1).setFlags (szpFlags (s.ioRead s.bc).1 s.cpu.f.c)).done 2

/-- `INI` (rule R402). -/
def execIni (s : State) : Result :=
  (s.blockIn 1#16).done 2

/-- `INIR` (rule R403). -/
def execInir (s : State) : Result :=
  (s.blockIn 1#16).repeatUnless ((s.blockIn 1#16).cpu.b == 0#8)

/-- `IND` (rule R404). -/
def execInd (s : State) : Result :=
  (s.blockIn (-1#16)).done 2

/-- `INDR` (rule R405). -/
def execIndr (s : State) : Result :=
  (s.blockIn (-1#16)).repeatUnless ((s.blockIn (-1#16)).cpu.b == 0#8)

/-- `OUT (n),A` (rule R406). -/
def execOutNA (n : Byte) (s : State) : Result :=
  (s.ioWrite (mkWord s.cpu.a n) s.cpu.a).done 2

/-- `OUT (C),r` (rule R407). -/
def execOutCR (r : Reg8) (s : State) : Result :=
  (s.ioWrite s.bc (s.reg r)).done 2

/-- `OUTI` (rule R408). -/
def execOuti (s : State) : Result :=
  (s.blockOut 1#16).done 2

/-- `OTIR` (rule R409). -/
def execOtir (s : State) : Result :=
  (s.blockOut 1#16).repeatUnless ((s.blockOut 1#16).cpu.b == 0#8)

/-- `OUTD` (rule R410). -/
def execOutd (s : State) : Result :=
  (s.blockOut (-1#16)).done 2

/-- `OTDR` (rule R411). -/
def execOtdr (s : State) : Result :=
  (s.blockOut (-1#16)).repeatUnless ((s.blockOut (-1#16)).cpu.b == 0#8)

end Sys2Proof.Machine
end

