-- ==== Sys2Proof/Machine/Jump.lean ====
section
/-! DEFINITION. The jump, call and return group (48_jump_call_return.md). -/

namespace Sys2Proof.Machine

/-- A relative jump taken if `c` holds, else the next instruction (rules R385 to R388, R392). -/
def State.jumpRelIf (s : State) (c : Bool) (e : Byte) : Result :=
  if c then .next (s.setPc (s.relTarget e)) else s.done 2

/-- The address of the following instruction, `n` bytes on, pushed, and a jump (rules R393, R394, R399). -/
def State.call (s : State) (n : Nat) (target : Word) : State :=
  (s.push16 (s.cpu.pc + BitVec.ofNat 16 n)).setPc target

/-- `JP nn` (rule R382). -/
def execJpNn (nn : Word) (s : State) : Result :=
  .next (s.setPc nn)

/-- `JP cc,nn` (rule R383). -/
def execJpCcNn (cc : Cond) (nn : Word) (s : State) : Result :=
  if s.cpu.f.cond cc then .next (s.setPc nn) else s.done 3

/-- `JR e` (rule R384). -/
def execJrE (e : Byte) (s : State) : Result :=
  .next (s.setPc (s.relTarget e))

/-- `JR C,e` (rule R385). -/
def execJrCE (e : Byte) (s : State) : Result :=
  s.jumpRelIf (s.cpu.f.cond .c) e

/-- `JR NC,e` (rule R386). -/
def execJrNcE (e : Byte) (s : State) : Result :=
  s.jumpRelIf (s.cpu.f.cond .nc) e

/-- `JR Z,e` (rule R387). -/
def execJrZE (e : Byte) (s : State) : Result :=
  s.jumpRelIf (s.cpu.f.cond .z) e

/-- `JR NZ,e` (rule R388). -/
def execJrNzE (e : Byte) (s : State) : Result :=
  s.jumpRelIf (s.cpu.f.cond .nz) e

/-- `JP (HL)` (rule R389). -/
def execJpHl (s : State) : Result :=
  .next (s.setPc s.hl)

/-- `JP (IX)` (rule R390). -/
def execJpIx (s : State) : Result :=
  .next (s.setPc s.cpu.ix)

/-- `JP (IY)` (rule R391). -/
def execJpIy (s : State) : Result :=
  .next (s.setPc s.cpu.iy)

/-- `DJNZ e` (rule R392). -/
def execDjnzE (e : Byte) (s : State) : Result :=
  (s.setReg .b (s.cpu.b - 1#8)).jumpRelIf (s.cpu.b - 1#8 != 0#8) e

/-- `CALL nn` (rule R393). -/
def execCallNn (nn : Word) (s : State) : Result :=
  .next (s.call 3 nn)

/-- `CALL cc,nn` (rule R394). -/
def execCallCcNn (cc : Cond) (nn : Word) (s : State) : Result :=
  if s.cpu.f.cond cc then .next (s.call 3 nn) else s.done 3

/-- `RET` (rule R395). -/
def execRet (s : State) : Result :=
  .next s.returnFrom

/-- `RET cc` (rule R396). -/
def execRetCc (cc : Cond) (s : State) : Result :=
  if s.cpu.f.cond cc then .next s.returnFrom else s.done 1

/-- `RETI` (rule R397). -/
def execReti (s : State) : Result :=
  .next s.returnFrom

/-- `RETN` (rule R398). -/
def execRetn (s : State) : Result :=
  .next s.returnFrom.restoreIff

/-- `RST p` (rule R399). -/
def execRstP (y : BitVec 3) (s : State) : Result :=
  .next (s.call 1 (restartAddr y))

end Sys2Proof.Machine
end

