-- ==== Sys2Proof/Machine/Load16.lean ====
section
/-! DEFINITION. The 16-bit load group, PUSH and POP (41_load16.md). -/

namespace Sys2Proof.Machine

/-- `LD dd,nn` (rule R223). -/
def execLdDdNn (dd : Pair) (nn : Word) (s : State) : Result :=
  (s.setPair dd nn).done 3

/-- `LD IX,nn` (rule R224). -/
def execLdIxNn (nn : Word) (s : State) : Result :=
  (s.setIx nn).done 4

/-- `LD IY,nn` (rule R225). -/
def execLdIyNn (nn : Word) (s : State) : Result :=
  (s.setIy nn).done 4

/-- `LD HL,(nn)` (rule R226). -/
def execLdHlMem (nn : Word) (s : State) : Result :=
  (s.setHl (s.readWord nn)).done 3

/-- `LD dd,(nn)` (rule R227). -/
def execLdDdMem (dd : Pair) (nn : Word) (s : State) : Result :=
  (s.setPair dd (s.readWord nn)).done 4

/-- `LD IX,(nn)` (rule R228). -/
def execLdIxMem (nn : Word) (s : State) : Result :=
  (s.setIx (s.readWord nn)).done 4

/-- `LD IY,(nn)` (rule R229). -/
def execLdIyMem (nn : Word) (s : State) : Result :=
  (s.setIy (s.readWord nn)).done 4

/-- `LD (nn),HL` (rule R230). -/
def execLdMemHl (nn : Word) (s : State) : Result :=
  (s.writeWord nn s.hl).done 3

/-- `LD (nn),dd` (rule R231). -/
def execLdMemDd (nn : Word) (dd : Pair) (s : State) : Result :=
  (s.writeWord nn (s.pair dd)).done 4

/-- `LD (nn),IX` (rule R232). -/
def execLdMemIx (nn : Word) (s : State) : Result :=
  (s.writeWord nn s.cpu.ix).done 4

/-- `LD (nn),IY` (rule R233). -/
def execLdMemIy (nn : Word) (s : State) : Result :=
  (s.writeWord nn s.cpu.iy).done 4

/-- `LD SP,HL` (rule R234). -/
def execLdSpHl (s : State) : Result :=
  (s.setSp s.hl).done 1

/-- `LD SP,IX` (rule R235). -/
def execLdSpIx (s : State) : Result :=
  (s.setSp s.cpu.ix).done 2

/-- `LD SP,IY` (rule R236). -/
def execLdSpIy (s : State) : Result :=
  (s.setSp s.cpu.iy).done 2

/-- `PUSH qq` (rule R237). -/
def execPushQq (qq : PairQ) (s : State) : Result :=
  (s.push16 (s.pairQ qq)).done 1

/-- `PUSH IX` (rule R238). -/
def execPushIx (s : State) : Result :=
  (s.push16 s.cpu.ix).done 2

/-- `PUSH IY` (rule R239). -/
def execPushIy (s : State) : Result :=
  (s.push16 s.cpu.iy).done 2

/-- `POP qq` (rule R240). -/
def execPopQq (qq : PairQ) (s : State) : Result :=
  (s.pop16.2.setPairQ qq s.pop16.1).done 1

/-- `POP IX` (rule R241). -/
def execPopIx (s : State) : Result :=
  (s.pop16.2.setIx s.pop16.1).done 2

/-- `POP IY` (rule R242). -/
def execPopIy (s : State) : Result :=
  (s.pop16.2.setIy s.pop16.1).done 2

end Sys2Proof.Machine
end

