-- ==== Sys2Proof/Machine/Load8.lean ====
section
/-! DEFINITION. The 8-bit load group (40_load8.md). -/

namespace Sys2Proof.Machine

/-- `LD r,r'` (rule R200). -/
def execLdRR (r : Reg8) (r' : Reg8) (s : State) : Result :=
  (s.setReg r (s.reg r')).done 1

/-- `LD r,n` (rule R201). -/
def execLdRN (r : Reg8) (n : Byte) (s : State) : Result :=
  (s.setReg r n).done 2

/-- `LD r,(HL)` (rule R202). -/
def execLdRHl (r : Reg8) (s : State) : Result :=
  (s.setReg r (s.readByte s.hl)).done 1

/-- `LD r,(IX+d)` (rule R203). -/
def execLdRIxd (r : Reg8) (d : Byte) (s : State) : Result :=
  (s.setReg r (s.readByte (s.ixAddr d))).done 3

/-- `LD r,(IY+d)` (rule R204). -/
def execLdRIyd (r : Reg8) (d : Byte) (s : State) : Result :=
  (s.setReg r (s.readByte (s.iyAddr d))).done 3

/-- `LD (HL),r` (rule R205). -/
def execLdHlR (r : Reg8) (s : State) : Result :=
  (s.writeByte s.hl (s.reg r)).done 1

/-- `LD (IX+d),r` (rule R206). -/
def execLdIxdR (d : Byte) (r : Reg8) (s : State) : Result :=
  (s.writeByte (s.ixAddr d) (s.reg r)).done 3

/-- `LD (IY+d),r` (rule R207). -/
def execLdIydR (d : Byte) (r : Reg8) (s : State) : Result :=
  (s.writeByte (s.iyAddr d) (s.reg r)).done 3

/-- `LD (HL),n` (rule R208). -/
def execLdHlN (n : Byte) (s : State) : Result :=
  (s.writeByte s.hl n).done 2

/-- `LD (IX+d),n` (rule R209). -/
def execLdIxdN (d : Byte) (n : Byte) (s : State) : Result :=
  (s.writeByte (s.ixAddr d) n).done 4

/-- `LD (IY+d),n` (rule R210). -/
def execLdIydN (d : Byte) (n : Byte) (s : State) : Result :=
  (s.writeByte (s.iyAddr d) n).done 4

/-- `LD A,(BC)` (rule R211). -/
def execLdABc (s : State) : Result :=
  (s.setReg .a (s.readByte s.bc)).done 1

/-- `LD A,(DE)` (rule R212). -/
def execLdADe (s : State) : Result :=
  (s.setReg .a (s.readByte s.de)).done 1

/-- `LD A,(nn)` (rule R213). -/
def execLdANn (nn : Word) (s : State) : Result :=
  (s.setReg .a (s.readByte nn)).done 3

/-- `LD (BC),A` (rule R214). -/
def execLdBcA (s : State) : Result :=
  (s.writeByte s.bc s.cpu.a).done 1

/-- `LD (DE),A` (rule R215). -/
def execLdDeA (s : State) : Result :=
  (s.writeByte s.de s.cpu.a).done 1

/-- `LD (nn),A` (rule R216). -/
def execLdNnA (nn : Word) (s : State) : Result :=
  (s.writeByte nn s.cpu.a).done 3

/-- `LD A,I` (rule R217). -/
def execLdAI (s : State) : Result :=
  ((s.setReg .a s.cpu.i).setFlags (loadIrFlags s.cpu.i s.cpu.iff2 s.cpu.f.c)).done 2

/-- `LD A,R` (rule R218). -/
def execLdARefresh (s : State) : Result :=
  ((s.setReg .a s.cpu.r).setFlags (loadIrFlags s.cpu.r s.cpu.iff2 s.cpu.f.c)).done 2

/-- `LD I,A` (rule R219). -/
def execLdIA (s : State) : Result :=
  State.done { s with cpu := { s.cpu with i := s.cpu.a } } 2

/-- `LD R,A` (rule R220). -/
def execLdRefreshA (s : State) : Result :=
  State.done { s with cpu := { s.cpu with r := s.cpu.a } } 2

end Sys2Proof.Machine
end

