-- ==== Sys2Proof/Machine/Rotate.lean ====
section
/-! DEFINITION. The rotate and shift group (46_rotate_shift.md). -/

namespace Sys2Proof.Machine

/-- The result and the flags of a rotate or shift of the CB page (rule R335). -/
def shift8 (op : RotOp) (v : Byte) (cin : Bool) : Byte × Fl :=
  ((rot8 op v cin).1, szpFlags (rot8 op v cin).1 (rot8 op v cin).2)

/-- The accumulator rotates (rules R336 to R339): A and the carry from `rot8`, H = N = 0, S, Z, P/V kept. -/
def State.rotateA (s : State) (op : RotOp) : State :=
  (s.setReg .a (rot8 op s.cpu.a s.cpu.f.c).1).setFlags
    (keepSzp s.cpu.f false false (rot8 op s.cpu.a s.cpu.f.c).2)

/-- `RLCA` (rule R336). -/
def execRlca (s : State) : Result :=
  (s.rotateA .rlc).done 1

/-- `RLA` (rule R337). -/
def execRla (s : State) : Result :=
  (s.rotateA .rl).done 1

/-- `RRCA` (rule R338). -/
def execRrca (s : State) : Result :=
  (s.rotateA .rrc).done 1

/-- `RRA` (rule R339). -/
def execRra (s : State) : Result :=
  (s.rotateA .rr).done 1

/-- `RLC r` (rule R340). -/
def execRlcR (r : Reg8) (s : State) : Result :=
  (s.setRegFlags r (shift8 .rlc (s.reg r) s.cpu.f.c)).done 2

/-- `RLC (HL)` (rule R341). -/
def execRlcHl (s : State) : Result :=
  (s.modify s.hl (shift8 .rlc (s.readByte s.hl) s.cpu.f.c)).done 2

/-- `RLC (IX+d)` (rule R342). -/
def execRlcIxd (d : Byte) (s : State) : Result :=
  (s.modify (s.ixAddr d) (shift8 .rlc (s.readByte (s.ixAddr d)) s.cpu.f.c)).done 4

/-- `RLC (IY+d)` (rule R343). -/
def execRlcIyd (d : Byte) (s : State) : Result :=
  (s.modify (s.iyAddr d) (shift8 .rlc (s.readByte (s.iyAddr d)) s.cpu.f.c)).done 4

/-- `RRC r` (rule R344). -/
def execRrcR (r : Reg8) (s : State) : Result :=
  (s.setRegFlags r (shift8 .rrc (s.reg r) s.cpu.f.c)).done 2

/-- `RRC (HL)` (rule R345). -/
def execRrcHl (s : State) : Result :=
  (s.modify s.hl (shift8 .rrc (s.readByte s.hl) s.cpu.f.c)).done 2

/-- `RRC (IX+d)` (rule R346). -/
def execRrcIxd (d : Byte) (s : State) : Result :=
  (s.modify (s.ixAddr d) (shift8 .rrc (s.readByte (s.ixAddr d)) s.cpu.f.c)).done 4

/-- `RRC (IY+d)` (rule R347). -/
def execRrcIyd (d : Byte) (s : State) : Result :=
  (s.modify (s.iyAddr d) (shift8 .rrc (s.readByte (s.iyAddr d)) s.cpu.f.c)).done 4

/-- `RL r` (rule R348). -/
def execRlR (r : Reg8) (s : State) : Result :=
  (s.setRegFlags r (shift8 .rl (s.reg r) s.cpu.f.c)).done 2

/-- `RL (HL)` (rule R349). -/
def execRlHl (s : State) : Result :=
  (s.modify s.hl (shift8 .rl (s.readByte s.hl) s.cpu.f.c)).done 2

/-- `RL (IX+d)` (rule R350). -/
def execRlIxd (d : Byte) (s : State) : Result :=
  (s.modify (s.ixAddr d) (shift8 .rl (s.readByte (s.ixAddr d)) s.cpu.f.c)).done 4

/-- `RL (IY+d)` (rule R351). -/
def execRlIyd (d : Byte) (s : State) : Result :=
  (s.modify (s.iyAddr d) (shift8 .rl (s.readByte (s.iyAddr d)) s.cpu.f.c)).done 4

/-- `RR r` (rule R352). -/
def execRrR (r : Reg8) (s : State) : Result :=
  (s.setRegFlags r (shift8 .rr (s.reg r) s.cpu.f.c)).done 2

/-- `RR (HL)` (rule R353). -/
def execRrHl (s : State) : Result :=
  (s.modify s.hl (shift8 .rr (s.readByte s.hl) s.cpu.f.c)).done 2

/-- `RR (IX+d)` (rule R354). -/
def execRrIxd (d : Byte) (s : State) : Result :=
  (s.modify (s.ixAddr d) (shift8 .rr (s.readByte (s.ixAddr d)) s.cpu.f.c)).done 4

/-- `RR (IY+d)` (rule R355). -/
def execRrIyd (d : Byte) (s : State) : Result :=
  (s.modify (s.iyAddr d) (shift8 .rr (s.readByte (s.iyAddr d)) s.cpu.f.c)).done 4

/-- `SLA r` (rule R356). -/
def execSlaR (r : Reg8) (s : State) : Result :=
  (s.setRegFlags r (shift8 .sla (s.reg r) s.cpu.f.c)).done 2

/-- `SLA (HL)` (rule R357). -/
def execSlaHl (s : State) : Result :=
  (s.modify s.hl (shift8 .sla (s.readByte s.hl) s.cpu.f.c)).done 2

/-- `SLA (IX+d)` (rule R358). -/
def execSlaIxd (d : Byte) (s : State) : Result :=
  (s.modify (s.ixAddr d) (shift8 .sla (s.readByte (s.ixAddr d)) s.cpu.f.c)).done 4

/-- `SLA (IY+d)` (rule R359). -/
def execSlaIyd (d : Byte) (s : State) : Result :=
  (s.modify (s.iyAddr d) (shift8 .sla (s.readByte (s.iyAddr d)) s.cpu.f.c)).done 4

/-- `SRA r` (rule R360). -/
def execSraR (r : Reg8) (s : State) : Result :=
  (s.setRegFlags r (shift8 .sra (s.reg r) s.cpu.f.c)).done 2

/-- `SRA (HL)` (rule R361). -/
def execSraHl (s : State) : Result :=
  (s.modify s.hl (shift8 .sra (s.readByte s.hl) s.cpu.f.c)).done 2

/-- `SRA (IX+d)` (rule R362). -/
def execSraIxd (d : Byte) (s : State) : Result :=
  (s.modify (s.ixAddr d) (shift8 .sra (s.readByte (s.ixAddr d)) s.cpu.f.c)).done 4

/-- `SRA (IY+d)` (rule R363). -/
def execSraIyd (d : Byte) (s : State) : Result :=
  (s.modify (s.iyAddr d) (shift8 .sra (s.readByte (s.iyAddr d)) s.cpu.f.c)).done 4

/-- `SRL r` (rule R364). -/
def execSrlR (r : Reg8) (s : State) : Result :=
  (s.setRegFlags r (shift8 .srl (s.reg r) s.cpu.f.c)).done 2

/-- `SRL (HL)` (rule R365). -/
def execSrlHl (s : State) : Result :=
  (s.modify s.hl (shift8 .srl (s.readByte s.hl) s.cpu.f.c)).done 2

/-- `SRL (IX+d)` (rule R366). -/
def execSrlIxd (d : Byte) (s : State) : Result :=
  (s.modify (s.ixAddr d) (shift8 .srl (s.readByte (s.ixAddr d)) s.cpu.f.c)).done 4

/-- `SRL (IY+d)` (rule R367). -/
def execSrlIyd (d : Byte) (s : State) : Result :=
  (s.modify (s.iyAddr d) (shift8 .srl (s.readByte (s.iyAddr d)) s.cpu.f.c)).done 4

/-- `RLD` (rule R368). -/
def execRld (s : State) : Result :=
  let t := s.readByte s.hl
  let a : Byte := hiNibble s.cpu.a ++ hiNibble t
  (((s.writeByte s.hl (loNibble t ++ loNibble s.cpu.a)).setReg .a a).setFlags (szpFlags a s.cpu.f.c)).done 2

/-- `RRD` (rule R369). -/
def execRrd (s : State) : Result :=
  let t := s.readByte s.hl
  let a : Byte := hiNibble s.cpu.a ++ loNibble t
  (((s.writeByte s.hl (loNibble s.cpu.a ++ hiNibble t)).setReg .a a).setFlags (szpFlags a s.cpu.f.c)).done 2

end Sys2Proof.Machine
end

