-- ==== Sys2Proof/Machine/Dispatch.lean ====
section
/-! DEFINITION. The meaning of every instruction: one arm per constructor of `Instr`, in the order of the opcode
table. -/

namespace Sys2Proof.Machine

def exec (i : Instr) (s : State) : Host.Outcome State Fault Refusal :=
  match i with
  -- 40_load8.md
  | .ldRR r r' => Sys2Proof.Machine.execLdRR r r' s
  | .ldRN r n => Sys2Proof.Machine.execLdRN r n s
  | .ldRHl r => Sys2Proof.Machine.execLdRHl r s
  | .ldRIxd r d => Sys2Proof.Machine.execLdRIxd r d s
  | .ldRIyd r d => Sys2Proof.Machine.execLdRIyd r d s
  | .ldHlR r => Sys2Proof.Machine.execLdHlR r s
  | .ldIxdR d r => Sys2Proof.Machine.execLdIxdR d r s
  | .ldIydR d r => Sys2Proof.Machine.execLdIydR d r s
  | .ldHlN n => Sys2Proof.Machine.execLdHlN n s
  | .ldIxdN d n => Sys2Proof.Machine.execLdIxdN d n s
  | .ldIydN d n => Sys2Proof.Machine.execLdIydN d n s
  | .ldABc => Sys2Proof.Machine.execLdABc s
  | .ldADe => Sys2Proof.Machine.execLdADe s
  | .ldANn nn => Sys2Proof.Machine.execLdANn nn s
  | .ldBcA => Sys2Proof.Machine.execLdBcA s
  | .ldDeA => Sys2Proof.Machine.execLdDeA s
  | .ldNnA nn => Sys2Proof.Machine.execLdNnA nn s
  | .ldAI => Sys2Proof.Machine.execLdAI s
  | .ldARefresh => Sys2Proof.Machine.execLdARefresh s
  | .ldIA => Sys2Proof.Machine.execLdIA s
  | .ldRefreshA => Sys2Proof.Machine.execLdRefreshA s
  -- 41_load16.md
  | .ldDdNn dd nn => Sys2Proof.Machine.execLdDdNn dd nn s
  | .ldIxNn nn => Sys2Proof.Machine.execLdIxNn nn s
  | .ldIyNn nn => Sys2Proof.Machine.execLdIyNn nn s
  | .ldHlMem nn => Sys2Proof.Machine.execLdHlMem nn s
  | .ldDdMem dd nn => Sys2Proof.Machine.execLdDdMem dd nn s
  | .ldIxMem nn => Sys2Proof.Machine.execLdIxMem nn s
  | .ldIyMem nn => Sys2Proof.Machine.execLdIyMem nn s
  | .ldMemHl nn => Sys2Proof.Machine.execLdMemHl nn s
  | .ldMemDd nn dd => Sys2Proof.Machine.execLdMemDd nn dd s
  | .ldMemIx nn => Sys2Proof.Machine.execLdMemIx nn s
  | .ldMemIy nn => Sys2Proof.Machine.execLdMemIy nn s
  | .ldSpHl => Sys2Proof.Machine.execLdSpHl s
  | .ldSpIx => Sys2Proof.Machine.execLdSpIx s
  | .ldSpIy => Sys2Proof.Machine.execLdSpIy s
  | .pushQq qq => Sys2Proof.Machine.execPushQq qq s
  | .pushIx => Sys2Proof.Machine.execPushIx s
  | .pushIy => Sys2Proof.Machine.execPushIy s
  | .popQq qq => Sys2Proof.Machine.execPopQq qq s
  | .popIx => Sys2Proof.Machine.execPopIx s
  | .popIy => Sys2Proof.Machine.execPopIy s
  -- 42_exchange_block.md
  | .exDeHl => Sys2Proof.Machine.execExDeHl s
  | .exAfAf => Sys2Proof.Machine.execExAfAf s
  | .exx => Sys2Proof.Machine.execExx s
  | .exSpHl => Sys2Proof.Machine.execExSpHl s
  | .exSpIx => Sys2Proof.Machine.execExSpIx s
  | .exSpIy => Sys2Proof.Machine.execExSpIy s
  | .ldi => Sys2Proof.Machine.execLdi s
  | .ldir => Sys2Proof.Machine.execLdir s
  | .ldd => Sys2Proof.Machine.execLdd s
  | .lddr => Sys2Proof.Machine.execLddr s
  | .cpi => Sys2Proof.Machine.execCpi s
  | .cpir => Sys2Proof.Machine.execCpir s
  | .cpd => Sys2Proof.Machine.execCpd s
  | .cpdr => Sys2Proof.Machine.execCpdr s
  -- 43_arith8.md
  | .addAR r => Sys2Proof.Machine.execAddAR r s
  | .addAN n => Sys2Proof.Machine.execAddAN n s
  | .addAHl => Sys2Proof.Machine.execAddAHl s
  | .addAIxd d => Sys2Proof.Machine.execAddAIxd d s
  | .addAIyd d => Sys2Proof.Machine.execAddAIyd d s
  | .adcAR r => Sys2Proof.Machine.execAdcAR r s
  | .adcAN n => Sys2Proof.Machine.execAdcAN n s
  | .adcAHl => Sys2Proof.Machine.execAdcAHl s
  | .adcAIxd d => Sys2Proof.Machine.execAdcAIxd d s
  | .adcAIyd d => Sys2Proof.Machine.execAdcAIyd d s
  | .subR r => Sys2Proof.Machine.execSubR r s
  | .subN n => Sys2Proof.Machine.execSubN n s
  | .subHl => Sys2Proof.Machine.execSubHl s
  | .subIxd d => Sys2Proof.Machine.execSubIxd d s
  | .subIyd d => Sys2Proof.Machine.execSubIyd d s
  | .sbcAR r => Sys2Proof.Machine.execSbcAR r s
  | .sbcAN n => Sys2Proof.Machine.execSbcAN n s
  | .sbcAHl => Sys2Proof.Machine.execSbcAHl s
  | .sbcAIxd d => Sys2Proof.Machine.execSbcAIxd d s
  | .sbcAIyd d => Sys2Proof.Machine.execSbcAIyd d s
  | .andR r => Sys2Proof.Machine.execAndR r s
  | .andN n => Sys2Proof.Machine.execAndN n s
  | .andHl => Sys2Proof.Machine.execAndHl s
  | .andIxd d => Sys2Proof.Machine.execAndIxd d s
  | .andIyd d => Sys2Proof.Machine.execAndIyd d s
  | .xorR r => Sys2Proof.Machine.execXorR r s
  | .xorN n => Sys2Proof.Machine.execXorN n s
  | .xorHl => Sys2Proof.Machine.execXorHl s
  | .xorIxd d => Sys2Proof.Machine.execXorIxd d s
  | .xorIyd d => Sys2Proof.Machine.execXorIyd d s
  | .orR r => Sys2Proof.Machine.execOrR r s
  | .orN n => Sys2Proof.Machine.execOrN n s
  | .orHl => Sys2Proof.Machine.execOrHl s
  | .orIxd d => Sys2Proof.Machine.execOrIxd d s
  | .orIyd d => Sys2Proof.Machine.execOrIyd d s
  | .cpR r => Sys2Proof.Machine.execCpR r s
  | .cpN n => Sys2Proof.Machine.execCpN n s
  | .cpHl => Sys2Proof.Machine.execCpHl s
  | .cpIxd d => Sys2Proof.Machine.execCpIxd d s
  | .cpIyd d => Sys2Proof.Machine.execCpIyd d s
  | .incR r => Sys2Proof.Machine.execIncR r s
  | .incHl => Sys2Proof.Machine.execIncHl s
  | .incIxd d => Sys2Proof.Machine.execIncIxd d s
  | .incIyd d => Sys2Proof.Machine.execIncIyd d s
  | .decR r => Sys2Proof.Machine.execDecR r s
  | .decHl => Sys2Proof.Machine.execDecHl s
  | .decIxd d => Sys2Proof.Machine.execDecIxd d s
  | .decIyd d => Sys2Proof.Machine.execDecIyd d s
  -- 44_general_cpu_control.md
  | .daa => Sys2Proof.Machine.execDaa s
  | .cpl => Sys2Proof.Machine.execCpl s
  | .neg => Sys2Proof.Machine.execNeg s
  | .ccf => Sys2Proof.Machine.execCcf s
  | .scf => Sys2Proof.Machine.execScf s
  | .nop => Sys2Proof.Machine.execNop s
  | .halt => Sys2Proof.Machine.execHalt s
  | .di => Sys2Proof.Machine.execDi s
  | .ei => Sys2Proof.Machine.execEi s
  | .im0 => Sys2Proof.Machine.execIm0 s
  | .im1 => Sys2Proof.Machine.execIm1 s
  | .im2 => Sys2Proof.Machine.execIm2 s
  -- 45_arith16.md
  | .addHlSs ss => Sys2Proof.Machine.execAddHlSs ss s
  | .adcHlSs ss => Sys2Proof.Machine.execAdcHlSs ss s
  | .sbcHlSs ss => Sys2Proof.Machine.execSbcHlSs ss s
  | .addIxPp pp => Sys2Proof.Machine.execAddIxPp pp s
  | .addIyRr rr => Sys2Proof.Machine.execAddIyRr rr s
  | .incSs ss => Sys2Proof.Machine.execIncSs ss s
  | .decSs ss => Sys2Proof.Machine.execDecSs ss s
  | .incIx => Sys2Proof.Machine.execIncIx s
  | .decIx => Sys2Proof.Machine.execDecIx s
  | .incIy => Sys2Proof.Machine.execIncIy s
  | .decIy => Sys2Proof.Machine.execDecIy s
  -- 46_rotate_shift.md
  | .rlca => Sys2Proof.Machine.execRlca s
  | .rla => Sys2Proof.Machine.execRla s
  | .rrca => Sys2Proof.Machine.execRrca s
  | .rra => Sys2Proof.Machine.execRra s
  | .rlcR r => Sys2Proof.Machine.execRlcR r s
  | .rlcHl => Sys2Proof.Machine.execRlcHl s
  | .rlcIxd d => Sys2Proof.Machine.execRlcIxd d s
  | .rlcIyd d => Sys2Proof.Machine.execRlcIyd d s
  | .rrcR r => Sys2Proof.Machine.execRrcR r s
  | .rrcHl => Sys2Proof.Machine.execRrcHl s
  | .rrcIxd d => Sys2Proof.Machine.execRrcIxd d s
  | .rrcIyd d => Sys2Proof.Machine.execRrcIyd d s
  | .rlR r => Sys2Proof.Machine.execRlR r s
  | .rlHl => Sys2Proof.Machine.execRlHl s
  | .rlIxd d => Sys2Proof.Machine.execRlIxd d s
  | .rlIyd d => Sys2Proof.Machine.execRlIyd d s
  | .rrR r => Sys2Proof.Machine.execRrR r s
  | .rrHl => Sys2Proof.Machine.execRrHl s
  | .rrIxd d => Sys2Proof.Machine.execRrIxd d s
  | .rrIyd d => Sys2Proof.Machine.execRrIyd d s
  | .slaR r => Sys2Proof.Machine.execSlaR r s
  | .slaHl => Sys2Proof.Machine.execSlaHl s
  | .slaIxd d => Sys2Proof.Machine.execSlaIxd d s
  | .slaIyd d => Sys2Proof.Machine.execSlaIyd d s
  | .sraR r => Sys2Proof.Machine.execSraR r s
  | .sraHl => Sys2Proof.Machine.execSraHl s
  | .sraIxd d => Sys2Proof.Machine.execSraIxd d s
  | .sraIyd d => Sys2Proof.Machine.execSraIyd d s
  | .srlR r => Sys2Proof.Machine.execSrlR r s
  | .srlHl => Sys2Proof.Machine.execSrlHl s
  | .srlIxd d => Sys2Proof.Machine.execSrlIxd d s
  | .srlIyd d => Sys2Proof.Machine.execSrlIyd d s
  | .rld => Sys2Proof.Machine.execRld s
  | .rrd => Sys2Proof.Machine.execRrd s
  -- 47_bit.md
  | .bitBR b r => Sys2Proof.Machine.execBitBR b r s
  | .bitBHl b => Sys2Proof.Machine.execBitBHl b s
  | .bitBIxd b d => Sys2Proof.Machine.execBitBIxd b d s
  | .bitBIyd b d => Sys2Proof.Machine.execBitBIyd b d s
  | .setBR b r => Sys2Proof.Machine.execSetBR b r s
  | .setBHl b => Sys2Proof.Machine.execSetBHl b s
  | .setBIxd b d => Sys2Proof.Machine.execSetBIxd b d s
  | .setBIyd b d => Sys2Proof.Machine.execSetBIyd b d s
  | .resBR b r => Sys2Proof.Machine.execResBR b r s
  | .resBHl b => Sys2Proof.Machine.execResBHl b s
  | .resBIxd b d => Sys2Proof.Machine.execResBIxd b d s
  | .resBIyd b d => Sys2Proof.Machine.execResBIyd b d s
  -- 48_jump_call_return.md
  | .jpNn nn => Sys2Proof.Machine.execJpNn nn s
  | .jpCcNn cc nn => Sys2Proof.Machine.execJpCcNn cc nn s
  | .jrE e => Sys2Proof.Machine.execJrE e s
  | .jrCE e => Sys2Proof.Machine.execJrCE e s
  | .jrNcE e => Sys2Proof.Machine.execJrNcE e s
  | .jrZE e => Sys2Proof.Machine.execJrZE e s
  | .jrNzE e => Sys2Proof.Machine.execJrNzE e s
  | .jpHl => Sys2Proof.Machine.execJpHl s
  | .jpIx => Sys2Proof.Machine.execJpIx s
  | .jpIy => Sys2Proof.Machine.execJpIy s
  | .djnzE e => Sys2Proof.Machine.execDjnzE e s
  | .callNn nn => Sys2Proof.Machine.execCallNn nn s
  | .callCcNn cc nn => Sys2Proof.Machine.execCallCcNn cc nn s
  | .ret => Sys2Proof.Machine.execRet s
  | .retCc cc => Sys2Proof.Machine.execRetCc cc s
  | .reti => Sys2Proof.Machine.execReti s
  | .retn => Sys2Proof.Machine.execRetn s
  | .rstP y => Sys2Proof.Machine.execRstP y s
  -- 49_io.md
  | .inAN n => Sys2Proof.Machine.execInAN n s
  | .inRC r => Sys2Proof.Machine.execInRC r s
  | .ini => Sys2Proof.Machine.execIni s
  | .inir => Sys2Proof.Machine.execInir s
  | .ind => Sys2Proof.Machine.execInd s
  | .indr => Sys2Proof.Machine.execIndr s
  | .outNA n => Sys2Proof.Machine.execOutNA n s
  | .outCR r => Sys2Proof.Machine.execOutCR r s
  | .outi => Sys2Proof.Machine.execOuti s
  | .otir => Sys2Proof.Machine.execOtir s
  | .outd => Sys2Proof.Machine.execOutd s
  | .otdr => Sys2Proof.Machine.execOtdr s

end Sys2Proof.Machine
end

