-- ==== Sys2Proof/Decode.lean ====
section
/-! DEFINITION. The decoder (30_encoding.md rules R100 to R117), total on any bytes, and the encoder, both written
from the opcode maps; length, page and refresh count per instruction (rules R100, R101, R120). -/

namespace Sys2Proof

/-- The classes of undefined encodings (30_encoding.md rule R117). -/
inductive UndefClass where
  | cb | ed | xy | xyCb
  deriving DecidableEq, Repr

/-- What the bytes at `pc` are. -/
inductive Decoded where
  | instr (i : Instr)
  | undef (c : UndefClass)
  deriving DecidableEq, Repr

/-- `x = op[7:6]` (30_encoding.md rule R103). -/
def opX (op : Byte) : Nat := op.toNat / 64

/-- `y = op[5:3]`. -/
def opY (op : Byte) : Nat := op.toNat / 8 % 8

/-- `z = op[2:0]`. -/
def opZ (op : Byte) : Nat := op.toNat % 8

/-- The register with an 8-bit code; code 6 names none (30_encoding.md rule R104). -/
def Reg8.ofCode : Nat → Option Reg8
  | 0 => some .b
  | 1 => some .c
  | 2 => some .d
  | 3 => some .e
  | 4 => some .h
  | 5 => some .l
  | 6 => none
  | _ => some .a

/-- The `dd`/`ss` table (30_encoding.md rule R105), `p = op[5:4]` given as `y / 2`. -/
def Pair.ofCode : Nat → Pair
  | 0 => .bc
  | 1 => .de
  | 2 => .hl
  | _ => .sp

/-- The `qq` table (rule R105). -/
def PairQ.ofCode : Nat → PairQ
  | 0 => .bc
  | 1 => .de
  | 2 => .hl
  | _ => .af

/-- The condition with a code (30_encoding.md rule R106). -/
def Cond.ofCode : Nat → Cond
  | 0 => .nz
  | 1 => .z
  | 2 => .nc
  | 3 => .c
  | 4 => .po
  | 5 => .pe
  | 6 => .p
  | _ => .m

/-- The accumulator operation with selector `y` (30_encoding.md rule R112) on a register. -/
def decodeAluR (y : Nat) (r : Reg8) : Instr :=
  match y with
  | 0 => .addAR r
  | 1 => .adcAR r
  | 2 => .subR r
  | 3 => .sbcAR r
  | 4 => .andR r
  | 5 => .xorR r
  | 6 => .orR r
  | _ => .cpR r

/-- The same on an immediate. -/
def decodeAluN (y : Nat) (n : Byte) : Instr :=
  match y with
  | 0 => .addAN n
  | 1 => .adcAN n
  | 2 => .subN n
  | 3 => .sbcAN n
  | 4 => .andN n
  | 5 => .xorN n
  | 6 => .orN n
  | _ => .cpN n

/-- The same on `(HL)`. -/
def decodeAluHl (y : Nat) : Instr :=
  match y with
  | 0 => .addAHl
  | 1 => .adcAHl
  | 2 => .subHl
  | 3 => .sbcAHl
  | 4 => .andHl
  | 5 => .xorHl
  | 6 => .orHl
  | _ => .cpHl

/-- The same on `(IX+d)`. -/
def decodeAluIxd (y : Nat) (d : Byte) : Instr :=
  match y with
  | 0 => .addAIxd d
  | 1 => .adcAIxd d
  | 2 => .subIxd d
  | 3 => .sbcAIxd d
  | 4 => .andIxd d
  | 5 => .xorIxd d
  | 6 => .orIxd d
  | _ => .cpIxd d

/-- The same on `(IY+d)`. -/
def decodeAluIyd (y : Nat) (d : Byte) : Instr :=
  match y with
  | 0 => .addAIyd d
  | 1 => .adcAIyd d
  | 2 => .subIyd d
  | 3 => .sbcAIyd d
  | 4 => .andIyd d
  | 5 => .xorIyd d
  | 6 => .orIyd d
  | _ => .cpIyd d

/-- The rotate or shift with selector `y` (30_encoding.md rule R112) of a register; 6 is none. -/
def decodeRotR (y : Nat) (r : Reg8) : Option Instr :=
  match y with
  | 0 => some (.rlcR r)
  | 1 => some (.rrcR r)
  | 2 => some (.rlR r)
  | 3 => some (.rrR r)
  | 4 => some (.slaR r)
  | 5 => some (.sraR r)
  | 6 => none
  | _ => some (.srlR r)

/-- The same of `(HL)`. -/
def decodeRotHl (y : Nat) : Option Instr :=
  match y with
  | 0 => some (.rlcHl)
  | 1 => some (.rrcHl)
  | 2 => some (.rlHl)
  | 3 => some (.rrHl)
  | 4 => some (.slaHl)
  | 5 => some (.sraHl)
  | 6 => none
  | _ => some (.srlHl)

/-- The same of `(IX+d)`. -/
def decodeRotIxd (y : Nat) (d : Byte) : Option Instr :=
  match y with
  | 0 => some (.rlcIxd d)
  | 1 => some (.rrcIxd d)
  | 2 => some (.rlIxd d)
  | 3 => some (.rrIxd d)
  | 4 => some (.slaIxd d)
  | 5 => some (.sraIxd d)
  | 6 => none
  | _ => some (.srlIxd d)

/-- The same of `(IY+d)`. -/
def decodeRotIyd (y : Nat) (d : Byte) : Option Instr :=
  match y with
  | 0 => some (.rlcIyd d)
  | 1 => some (.rrcIyd d)
  | 2 => some (.rlIyd d)
  | 3 => some (.rrIyd d)
  | 4 => some (.slaIyd d)
  | 5 => some (.sraIyd d)
  | 6 => none
  | _ => some (.srlIyd d)

/-- A row found, or an undefined encoding of class `c`. -/
def Decoded.ofOption (c : UndefClass) : Option Instr → Decoded
  | some i => .instr i
  | none => .undef c

/-- Page `CB` (30_encoding.md rule R114). -/
def decodeCb (op : Byte) : Decoded :=
  match opX op, Reg8.ofCode (opZ op) with
  | 0, some r => .ofOption .cb (decodeRotR (opY op) r)
  | 0, none => .ofOption .cb (decodeRotHl (opY op))
  | 1, some r => .instr (.bitBR (BitVec.ofNat 3 (opY op)) r)
  | 1, none => .instr (.bitBHl (BitVec.ofNat 3 (opY op)))
  | 2, some r => .instr (.resBR (BitVec.ofNat 3 (opY op)) r)
  | 2, none => .instr (.resBHl (BitVec.ofNat 3 (opY op)))
  | _, some r => .instr (.setBR (BitVec.ofNat 3 (opY op)) r)
  | _, none => .instr (.setBHl (BitVec.ofNat 3 (opY op)))

/-- Page `DDCB` (30_encoding.md rule R116, second table): `d` is the third byte, `op` the fourth. -/
def decodeDdCb (d op : Byte) : Decoded :=
  match Reg8.ofCode (opZ op) with
  | some _ => .undef .xyCb
  | none =>
    match opX op with
    | 0 => .ofOption .xyCb (decodeRotIxd (opY op) d)
    | 1 => .instr (.bitBIxd (BitVec.ofNat 3 (opY op)) d)
    | 2 => .instr (.resBIxd (BitVec.ofNat 3 (opY op)) d)
    | _ => .instr (.setBIxd (BitVec.ofNat 3 (opY op)) d)

/-- Page `FDCB` (30_encoding.md rule R116, second table): `d` is the third byte, `op` the fourth. -/
def decodeFdCb (d op : Byte) : Decoded :=
  match Reg8.ofCode (opZ op) with
  | some _ => .undef .xyCb
  | none =>
    match opX op with
    | 0 => .ofOption .xyCb (decodeRotIyd (opY op) d)
    | 1 => .instr (.bitBIyd (BitVec.ofNat 3 (opY op)) d)
    | 2 => .instr (.resBIyd (BitVec.ofNat 3 (opY op)) d)
    | _ => .instr (.setBIyd (BitVec.ofNat 3 (opY op)) d)

/-- Page `DD` (30_encoding.md rule R116, first table): `b1`, `b2`, `b3` follow the prefix byte. -/
def decodeDd (b1 b2 b3 : Byte) : Decoded :=
  match opX b1 with
  | 0 =>
    match b1.toNat with
    | 0x09 => .instr (.addIxPp .bc)
    | 0x19 => .instr (.addIxPp .de)
    | 0x21 => .instr (.ldIxNn (mkWord b3 b2))
    | 0x22 => .instr (.ldMemIx (mkWord b3 b2))
    | 0x23 => .instr .incIx
    | 0x29 => .instr (.addIxPp .idx)
    | 0x2A => .instr (.ldIxMem (mkWord b3 b2))
    | 0x2B => .instr .decIx
    | 0x34 => .instr (.incIxd b2)
    | 0x35 => .instr (.decIxd b2)
    | 0x36 => .instr (.ldIxdN b2 b3)
    | 0x39 => .instr (.addIxPp .sp)
    | _ => .undef .xy
  | 1 =>
    match Reg8.ofCode (opY b1), Reg8.ofCode (opZ b1) with
    | some r, none => .instr (.ldRIxd r b2)
    | none, some r => .instr (.ldIxdR b2 r)
    | _, _ => .undef .xy
  | 2 =>
    match Reg8.ofCode (opZ b1) with
    | none => .instr (decodeAluIxd (opY b1) b2)
    | some _ => .undef .xy
  | _ =>
    match b1.toNat with
    | 0xCB => decodeDdCb b2 b3
    | 0xE1 => .instr .popIx
    | 0xE3 => .instr .exSpIx
    | 0xE5 => .instr .pushIx
    | 0xE9 => .instr .jpIx
    | 0xF9 => .instr .ldSpIx
    | _ => .undef .xy

/-- Page `FD` (30_encoding.md rule R116, first table): `b1`, `b2`, `b3` follow the prefix byte. -/
def decodeFd (b1 b2 b3 : Byte) : Decoded :=
  match opX b1 with
  | 0 =>
    match b1.toNat with
    | 0x09 => .instr (.addIyRr .bc)
    | 0x19 => .instr (.addIyRr .de)
    | 0x21 => .instr (.ldIyNn (mkWord b3 b2))
    | 0x22 => .instr (.ldMemIy (mkWord b3 b2))
    | 0x23 => .instr .incIy
    | 0x29 => .instr (.addIyRr .idx)
    | 0x2A => .instr (.ldIyMem (mkWord b3 b2))
    | 0x2B => .instr .decIy
    | 0x34 => .instr (.incIyd b2)
    | 0x35 => .instr (.decIyd b2)
    | 0x36 => .instr (.ldIydN b2 b3)
    | 0x39 => .instr (.addIyRr .sp)
    | _ => .undef .xy
  | 1 =>
    match Reg8.ofCode (opY b1), Reg8.ofCode (opZ b1) with
    | some r, none => .instr (.ldRIyd r b2)
    | none, some r => .instr (.ldIydR b2 r)
    | _, _ => .undef .xy
  | 2 =>
    match Reg8.ofCode (opZ b1) with
    | none => .instr (decodeAluIyd (opY b1) b2)
    | some _ => .undef .xy
  | _ =>
    match b1.toNat with
    | 0xCB => decodeFdCb b2 b3
    | 0xE1 => .instr .popIy
    | 0xE3 => .instr .exSpIy
    | 0xE5 => .instr .pushIy
    | 0xE9 => .instr .jpIy
    | 0xF9 => .instr .ldSpIy
    | _ => .undef .xy

/-- Page `ED` (30_encoding.md rule R115): `b1`, `b2`, `b3` follow the byte `ED`. -/
def decodeEd (b1 b2 b3 : Byte) : Decoded :=
  match opX b1 with
  | 1 =>
    match opZ b1 with
    | 0 => .ofOption .ed ((Reg8.ofCode (opY b1)).map Instr.inRC)
    | 1 => .ofOption .ed ((Reg8.ofCode (opY b1)).map Instr.outCR)
    | 2 =>
      if opY b1 % 2 = 0 then .instr (.sbcHlSs (Pair.ofCode (opY b1 / 2)))
      else .instr (.adcHlSs (Pair.ofCode (opY b1 / 2)))
    | 3 =>
      if opY b1 % 2 = 0 then .instr (.ldMemDd (mkWord b3 b2) (Pair.ofCode (opY b1 / 2)))
      else .instr (.ldDdMem (Pair.ofCode (opY b1 / 2)) (mkWord b3 b2))
    | _ =>
      match b1.toNat with
      | 0x44 => .instr .neg
      | 0x45 => .instr .retn
      | 0x46 => .instr .im0
      | 0x47 => .instr .ldIA
      | 0x4D => .instr .reti
      | 0x4F => .instr .ldRefreshA
      | 0x56 => .instr .im1
      | 0x57 => .instr .ldAI
      | 0x5E => .instr .im2
      | 0x5F => .instr .ldARefresh
      | 0x67 => .instr .rrd
      | 0x6F => .instr .rld
      | _ => .undef .ed
  | 2 =>
    match b1.toNat with
    | 0xA0 => .instr .ldi
    | 0xA1 => .instr .cpi
    | 0xA2 => .instr .ini
    | 0xA3 => .instr .outi
    | 0xA8 => .instr .ldd
    | 0xA9 => .instr .cpd
    | 0xAA => .instr .ind
    | 0xAB => .instr .outd
    | 0xB0 => .instr .ldir
    | 0xB1 => .instr .cpir
    | 0xB2 => .instr .inir
    | 0xB3 => .instr .otir
    | 0xB8 => .instr .lddr
    | 0xB9 => .instr .cpdr
    | 0xBA => .instr .indr
    | 0xBB => .instr .otdr
    | _ => .undef .ed
  | _ => .undef .ed

/-- The block `00 yyy zzz` of page `main` (30_encoding.md rule R113). -/
def decodeMain0 (b0 b1 b2 : Byte) : Instr :=
  match opZ b0 with
  | 0 =>
    match opY b0 with
    | 0 => .nop
    | 1 => .exAfAf
    | 2 => .djnzE b1
    | 3 => .jrE b1
    | 4 => .jrNzE b1
    | 5 => .jrZE b1
    | 6 => .jrNcE b1
    | _ => .jrCE b1
  | 1 =>
    if opY b0 % 2 = 0 then .ldDdNn (Pair.ofCode (opY b0 / 2)) (mkWord b2 b1)
    else .addHlSs (Pair.ofCode (opY b0 / 2))
  | 2 =>
    match opY b0 with
    | 0 => .ldBcA
    | 1 => .ldABc
    | 2 => .ldDeA
    | 3 => .ldADe
    | 4 => .ldMemHl (mkWord b2 b1)
    | 5 => .ldHlMem (mkWord b2 b1)
    | 6 => .ldNnA (mkWord b2 b1)
    | _ => .ldANn (mkWord b2 b1)
  | 3 =>
    if opY b0 % 2 = 0 then .incSs (Pair.ofCode (opY b0 / 2)) else .decSs (Pair.ofCode (opY b0 / 2))
  | 4 =>
    match Reg8.ofCode (opY b0) with
    | some r => .incR r
    | none => .incHl
  | 5 =>
    match Reg8.ofCode (opY b0) with
    | some r => .decR r
    | none => .decHl
  | 6 =>
    match Reg8.ofCode (opY b0) with
    | some r => .ldRN r b1
    | none => .ldHlN b1
  | _ =>
    match opY b0 with
    | 0 => .rlca
    | 1 => .rrca
    | 2 => .rla
    | 3 => .rra
    | 4 => .daa
    | 5 => .cpl
    | 6 => .scf
    | _ => .ccf

/-- The block `01 yyy zzz` of page `main` (rule R113). -/
def decodeMain1 (b0 : Byte) : Instr :=
  match Reg8.ofCode (opY b0), Reg8.ofCode (opZ b0) with
  | some r, some r' => .ldRR r r'
  | some r, none => .ldRHl r
  | none, some r => .ldHlR r
  | none, none => .halt

/-- The block `10 yyy zzz` of page `main` (rules R112, R113). -/
def decodeMain2 (b0 : Byte) : Instr :=
  match Reg8.ofCode (opZ b0) with
  | some r => decodeAluR (opY b0) r
  | none => decodeAluHl (opY b0)

/-- The block `11 yyy zzz` of page `main` (rule R113), where the four prefix bytes select another page. -/
def decodeMain3 (b0 b1 b2 b3 : Byte) : Decoded :=
  match opZ b0 with
  | 0 => .instr (.retCc (Cond.ofCode (opY b0)))
  | 1 =>
    match opY b0 with
    | 1 => .instr .ret
    | 3 => .instr .exx
    | 5 => .instr .jpHl
    | 7 => .instr .ldSpHl
    | y => .instr (.popQq (PairQ.ofCode (y / 2)))
  | 2 => .instr (.jpCcNn (Cond.ofCode (opY b0)) (mkWord b2 b1))
  | 3 =>
    match opY b0 with
    | 0 => .instr (.jpNn (mkWord b2 b1))
    | 1 => decodeCb b1
    | 2 => .instr (.outNA b1)
    | 3 => .instr (.inAN b1)
    | 4 => .instr .exSpHl
    | 5 => .instr .exDeHl
    | 6 => .instr .di
    | _ => .instr .ei
  | 4 => .instr (.callCcNn (Cond.ofCode (opY b0)) (mkWord b2 b1))
  | 5 =>
    match opY b0 with
    | 1 => .instr (.callNn (mkWord b2 b1))
    | 3 => decodeDd b1 b2 b3
    | 5 => decodeEd b1 b2 b3
    | 7 => decodeFd b1 b2 b3
    | y => .instr (.pushQq (PairQ.ofCode (y / 2)))
  | 6 => .instr (decodeAluN (opY b0) b1)
  | _ => .instr (.rstP (BitVec.ofNat 3 (opY b0)))

/-- Decoding (30_encoding.md rule R101): the first byte selects the page; a byte that the instruction does not have
is looked at by no row. -/
def decode (b0 b1 b2 b3 : Byte) : Decoded :=
  match opX b0 with
  | 0 => .instr (decodeMain0 b0 b1 b2)
  | 1 => .instr (decodeMain1 b0)
  | 2 => .instr (decodeMain2 b0)
  | _ => decodeMain3 b0 b1 b2 b3

/-- Decoding a list of bytes, first byte first; bytes beyond the list read as 0. -/
def decodeBytes (bs : List Byte) : Decoded :=
  decode (bs.getD 0 0#8) (bs.getD 1 0#8) (bs.getD 2 0#8) (bs.getD 3 0#8)

/-- The bytes of a number of opcode_table.json: `len` bytes, the first most significant (30_encoding.md rule R124). -/
def tableBytes (len w : Nat) : List Byte :=
  match len with
  | 0 => []
  | n + 1 => BitVec.ofNat 8 (w / 256 ^ n) :: tableBytes n w

/-- The four bytes that stand at `pc` when an instruction of `nbits` bits is placed there: its bytes as the table
numbers them, then zeros. -/
def tableFetch (nbits w : Nat) : List Byte :=
  (tableBytes (nbits / 8) w ++ List.replicate 4 0#8).take 4

/-- The instruction the decoder reads from an instruction whose bits, as the table numbers them, are `w`. -/
def decodeTableWord (nbits w : Nat) : Option Instr :=
  match decodeBytes (tableFetch nbits w) with
  | .instr i => some i
  | .undef _ => none

/-- The 8-bit register codes (30_encoding.md rule R104). -/
def Reg8.code : Reg8 → BitVec 3
  | .b => 0#3
  | .c => 1#3
  | .d => 2#3
  | .e => 3#3
  | .h => 4#3
  | .l => 5#3
  | .a => 7#3

/-- The `dd`/`ss` codes (rule R105). -/
def Pair.code : Pair → BitVec 2
  | .bc => 0#2
  | .de => 1#2
  | .hl => 2#2
  | .sp => 3#2

/-- The `qq` codes (rule R105). -/
def PairQ.code : PairQ → BitVec 2
  | .bc => 0#2
  | .de => 1#2
  | .hl => 2#2
  | .af => 3#2

/-- The `pp` and `rr` codes (rule R105). -/
def PairX.code : PairX → BitVec 2
  | .bc => 0#2
  | .de => 1#2
  | .idx => 2#2
  | .sp => 3#2

/-- The condition codes (rule R106). -/
def Cond.code : Cond → BitVec 3
  | .nz => 0#3
  | .z => 1#3
  | .nc => 2#3
  | .c => 3#3
  | .po => 4#3
  | .pe => 5#3
  | .p => 6#3
  | .m => 7#3

/-- The bytes of an instruction, first byte first, as the bit pattern of its rule gives them. -/
def encode : Instr → List Byte
  | .ldRR r r' => [0b01#2 ++ r.code ++ r'.code]
  | .ldRN r n => [0b00#2 ++ r.code ++ 0b110#3, n]
  | .ldRHl r => [0b01#2 ++ r.code ++ 0b110#3]
  | .ldRIxd r d => [0xDD#8, 0b01#2 ++ r.code ++ 0b110#3, d]
  | .ldRIyd r d => [0xFD#8, 0b01#2 ++ r.code ++ 0b110#3, d]
  | .ldHlR r => [0b01110#5 ++ r.code]
  | .ldIxdR d r => [0xDD#8, 0b01110#5 ++ r.code, d]
  | .ldIydR d r => [0xFD#8, 0b01110#5 ++ r.code, d]
  | .ldHlN n => [0x36#8, n]
  | .ldIxdN d n => [0xDD#8, 0x36#8, d, n]
  | .ldIydN d n => [0xFD#8, 0x36#8, d, n]
  | .ldABc => [0x0A#8]
  | .ldADe => [0x1A#8]
  | .ldANn nn => [0x3A#8, loByte nn, hiByte nn]
  | .ldBcA => [0x02#8]
  | .ldDeA => [0x12#8]
  | .ldNnA nn => [0x32#8, loByte nn, hiByte nn]
  | .ldAI => [0xED#8, 0x57#8]
  | .ldARefresh => [0xED#8, 0x5F#8]
  | .ldIA => [0xED#8, 0x47#8]
  | .ldRefreshA => [0xED#8, 0x4F#8]
  | .ldDdNn dd nn => [0b00#2 ++ dd.code ++ 0b0001#4, loByte nn, hiByte nn]
  | .ldIxNn nn => [0xDD#8, 0x21#8, loByte nn, hiByte nn]
  | .ldIyNn nn => [0xFD#8, 0x21#8, loByte nn, hiByte nn]
  | .ldHlMem nn => [0x2A#8, loByte nn, hiByte nn]
  | .ldDdMem dd nn => [0xED#8, 0b01#2 ++ dd.code ++ 0b1011#4, loByte nn, hiByte nn]
  | .ldIxMem nn => [0xDD#8, 0x2A#8, loByte nn, hiByte nn]
  | .ldIyMem nn => [0xFD#8, 0x2A#8, loByte nn, hiByte nn]
  | .ldMemHl nn => [0x22#8, loByte nn, hiByte nn]
  | .ldMemDd nn dd => [0xED#8, 0b01#2 ++ dd.code ++ 0b0011#4, loByte nn, hiByte nn]
  | .ldMemIx nn => [0xDD#8, 0x22#8, loByte nn, hiByte nn]
  | .ldMemIy nn => [0xFD#8, 0x22#8, loByte nn, hiByte nn]
  | .ldSpHl => [0xF9#8]
  | .ldSpIx => [0xDD#8, 0xF9#8]
  | .ldSpIy => [0xFD#8, 0xF9#8]
  | .pushQq qq => [0b11#2 ++ qq.code ++ 0b0101#4]
  | .pushIx => [0xDD#8, 0xE5#8]
  | .pushIy => [0xFD#8, 0xE5#8]
  | .popQq qq => [0b11#2 ++ qq.code ++ 0b0001#4]
  | .popIx => [0xDD#8, 0xE1#8]
  | .popIy => [0xFD#8, 0xE1#8]
  | .exDeHl => [0xEB#8]
  | .exAfAf => [0x08#8]
  | .exx => [0xD9#8]
  | .exSpHl => [0xE3#8]
  | .exSpIx => [0xDD#8, 0xE3#8]
  | .exSpIy => [0xFD#8, 0xE3#8]
  | .ldi => [0xED#8, 0xA0#8]
  | .ldir => [0xED#8, 0xB0#8]
  | .ldd => [0xED#8, 0xA8#8]
  | .lddr => [0xED#8, 0xB8#8]
  | .cpi => [0xED#8, 0xA1#8]
  | .cpir => [0xED#8, 0xB1#8]
  | .cpd => [0xED#8, 0xA9#8]
  | .cpdr => [0xED#8, 0xB9#8]
  | .addAR r => [0b10000#5 ++ r.code]
  | .addAN n => [0xC6#8, n]
  | .addAHl => [0x86#8]
  | .addAIxd d => [0xDD#8, 0x86#8, d]
  | .addAIyd d => [0xFD#8, 0x86#8, d]
  | .adcAR r => [0b10001#5 ++ r.code]
  | .adcAN n => [0xCE#8, n]
  | .adcAHl => [0x8E#8]
  | .adcAIxd d => [0xDD#8, 0x8E#8, d]
  | .adcAIyd d => [0xFD#8, 0x8E#8, d]
  | .subR r => [0b10010#5 ++ r.code]
  | .subN n => [0xD6#8, n]
  | .subHl => [0x96#8]
  | .subIxd d => [0xDD#8, 0x96#8, d]
  | .subIyd d => [0xFD#8, 0x96#8, d]
  | .sbcAR r => [0b10011#5 ++ r.code]
  | .sbcAN n => [0xDE#8, n]
  | .sbcAHl => [0x9E#8]
  | .sbcAIxd d => [0xDD#8, 0x9E#8, d]
  | .sbcAIyd d => [0xFD#8, 0x9E#8, d]
  | .andR r => [0b10100#5 ++ r.code]
  | .andN n => [0xE6#8, n]
  | .andHl => [0xA6#8]
  | .andIxd d => [0xDD#8, 0xA6#8, d]
  | .andIyd d => [0xFD#8, 0xA6#8, d]
  | .xorR r => [0b10101#5 ++ r.code]
  | .xorN n => [0xEE#8, n]
  | .xorHl => [0xAE#8]
  | .xorIxd d => [0xDD#8, 0xAE#8, d]
  | .xorIyd d => [0xFD#8, 0xAE#8, d]
  | .orR r => [0b10110#5 ++ r.code]
  | .orN n => [0xF6#8, n]
  | .orHl => [0xB6#8]
  | .orIxd d => [0xDD#8, 0xB6#8, d]
  | .orIyd d => [0xFD#8, 0xB6#8, d]
  | .cpR r => [0b10111#5 ++ r.code]
  | .cpN n => [0xFE#8, n]
  | .cpHl => [0xBE#8]
  | .cpIxd d => [0xDD#8, 0xBE#8, d]
  | .cpIyd d => [0xFD#8, 0xBE#8, d]
  | .incR r => [0b00#2 ++ r.code ++ 0b100#3]
  | .incHl => [0x34#8]
  | .incIxd d => [0xDD#8, 0x34#8, d]
  | .incIyd d => [0xFD#8, 0x34#8, d]
  | .decR r => [0b00#2 ++ r.code ++ 0b101#3]
  | .decHl => [0x35#8]
  | .decIxd d => [0xDD#8, 0x35#8, d]
  | .decIyd d => [0xFD#8, 0x35#8, d]
  | .daa => [0x27#8]
  | .cpl => [0x2F#8]
  | .neg => [0xED#8, 0x44#8]
  | .ccf => [0x3F#8]
  | .scf => [0x37#8]
  | .nop => [0x00#8]
  | .halt => [0x76#8]
  | .di => [0xF3#8]
  | .ei => [0xFB#8]
  | .im0 => [0xED#8, 0x46#8]
  | .im1 => [0xED#8, 0x56#8]
  | .im2 => [0xED#8, 0x5E#8]
  | .addHlSs ss => [0b00#2 ++ ss.code ++ 0b1001#4]
  | .adcHlSs ss => [0xED#8, 0b01#2 ++ ss.code ++ 0b1010#4]
  | .sbcHlSs ss => [0xED#8, 0b01#2 ++ ss.code ++ 0b0010#4]
  | .addIxPp pp => [0xDD#8, 0b00#2 ++ pp.code ++ 0b1001#4]
  | .addIyRr rr => [0xFD#8, 0b00#2 ++ rr.code ++ 0b1001#4]
  | .incSs ss => [0b00#2 ++ ss.code ++ 0b0011#4]
  | .decSs ss => [0b00#2 ++ ss.code ++ 0b1011#4]
  | .incIx => [0xDD#8, 0x23#8]
  | .decIx => [0xDD#8, 0x2B#8]
  | .incIy => [0xFD#8, 0x23#8]
  | .decIy => [0xFD#8, 0x2B#8]
  | .rlca => [0x07#8]
  | .rla => [0x17#8]
  | .rrca => [0x0F#8]
  | .rra => [0x1F#8]
  | .rlcR r => [0xCB#8, 0b00000#5 ++ r.code]
  | .rlcHl => [0xCB#8, 0x06#8]
  | .rlcIxd d => [0xDD#8, 0xCB#8, d, 0x06#8]
  | .rlcIyd d => [0xFD#8, 0xCB#8, d, 0x06#8]
  | .rrcR r => [0xCB#8, 0b00001#5 ++ r.code]
  | .rrcHl => [0xCB#8, 0x0E#8]
  | .rrcIxd d => [0xDD#8, 0xCB#8, d, 0x0E#8]
  | .rrcIyd d => [0xFD#8, 0xCB#8, d, 0x0E#8]
  | .rlR r => [0xCB#8, 0b00010#5 ++ r.code]
  | .rlHl => [0xCB#8, 0x16#8]
  | .rlIxd d => [0xDD#8, 0xCB#8, d, 0x16#8]
  | .rlIyd d => [0xFD#8, 0xCB#8, d, 0x16#8]
  | .rrR r => [0xCB#8, 0b00011#5 ++ r.code]
  | .rrHl => [0xCB#8, 0x1E#8]
  | .rrIxd d => [0xDD#8, 0xCB#8, d, 0x1E#8]
  | .rrIyd d => [0xFD#8, 0xCB#8, d, 0x1E#8]
  | .slaR r => [0xCB#8, 0b00100#5 ++ r.code]
  | .slaHl => [0xCB#8, 0x26#8]
  | .slaIxd d => [0xDD#8, 0xCB#8, d, 0x26#8]
  | .slaIyd d => [0xFD#8, 0xCB#8, d, 0x26#8]
  | .sraR r => [0xCB#8, 0b00101#5 ++ r.code]
  | .sraHl => [0xCB#8, 0x2E#8]
  | .sraIxd d => [0xDD#8, 0xCB#8, d, 0x2E#8]
  | .sraIyd d => [0xFD#8, 0xCB#8, d, 0x2E#8]
  | .srlR r => [0xCB#8, 0b00111#5 ++ r.code]
  | .srlHl => [0xCB#8, 0x3E#8]
  | .srlIxd d => [0xDD#8, 0xCB#8, d, 0x3E#8]
  | .srlIyd d => [0xFD#8, 0xCB#8, d, 0x3E#8]
  | .rld => [0xED#8, 0x6F#8]
  | .rrd => [0xED#8, 0x67#8]
  | .bitBR b r => [0xCB#8, 0b01#2 ++ b ++ r.code]
  | .bitBHl b => [0xCB#8, 0b01#2 ++ b ++ 0b110#3]
  | .bitBIxd b d => [0xDD#8, 0xCB#8, d, 0b01#2 ++ b ++ 0b110#3]
  | .bitBIyd b d => [0xFD#8, 0xCB#8, d, 0b01#2 ++ b ++ 0b110#3]
  | .setBR b r => [0xCB#8, 0b11#2 ++ b ++ r.code]
  | .setBHl b => [0xCB#8, 0b11#2 ++ b ++ 0b110#3]
  | .setBIxd b d => [0xDD#8, 0xCB#8, d, 0b11#2 ++ b ++ 0b110#3]
  | .setBIyd b d => [0xFD#8, 0xCB#8, d, 0b11#2 ++ b ++ 0b110#3]
  | .resBR b r => [0xCB#8, 0b10#2 ++ b ++ r.code]
  | .resBHl b => [0xCB#8, 0b10#2 ++ b ++ 0b110#3]
  | .resBIxd b d => [0xDD#8, 0xCB#8, d, 0b10#2 ++ b ++ 0b110#3]
  | .resBIyd b d => [0xFD#8, 0xCB#8, d, 0b10#2 ++ b ++ 0b110#3]
  | .jpNn nn => [0xC3#8, loByte nn, hiByte nn]
  | .jpCcNn cc nn => [0b11#2 ++ cc.code ++ 0b010#3, loByte nn, hiByte nn]
  | .jrE e => [0x18#8, e]
  | .jrCE e => [0x38#8, e]
  | .jrNcE e => [0x30#8, e]
  | .jrZE e => [0x28#8, e]
  | .jrNzE e => [0x20#8, e]
  | .jpHl => [0xE9#8]
  | .jpIx => [0xDD#8, 0xE9#8]
  | .jpIy => [0xFD#8, 0xE9#8]
  | .djnzE e => [0x10#8, e]
  | .callNn nn => [0xCD#8, loByte nn, hiByte nn]
  | .callCcNn cc nn => [0b11#2 ++ cc.code ++ 0b100#3, loByte nn, hiByte nn]
  | .ret => [0xC9#8]
  | .retCc cc => [0b11#2 ++ cc.code ++ 0b000#3]
  | .reti => [0xED#8, 0x4D#8]
  | .retn => [0xED#8, 0x45#8]
  | .rstP y => [0b11#2 ++ y ++ 0b111#3]
  | .inAN n => [0xDB#8, n]
  | .inRC r => [0xED#8, 0b01#2 ++ r.code ++ 0b000#3]
  | .ini => [0xED#8, 0xA2#8]
  | .inir => [0xED#8, 0xB2#8]
  | .ind => [0xED#8, 0xAA#8]
  | .indr => [0xED#8, 0xBA#8]
  | .outNA n => [0xD3#8, n]
  | .outCR r => [0xED#8, 0b01#2 ++ r.code ++ 0b001#3]
  | .outi => [0xED#8, 0xA3#8]
  | .otir => [0xED#8, 0xB3#8]
  | .outd => [0xED#8, 0xAB#8]
  | .otdr => [0xED#8, 0xBB#8]

/-- The pages of the opcode map (30_encoding.md rule R101). -/
inductive Page where
  | main | cb | ed | dd | fd | ddCb | fdCb
  deriving DecidableEq, Repr

/-- The page of an instruction (column `format` of opcode_table.json). -/
def Instr.page : Instr → Page
  | .ldRR _ _ => .main
  | .ldRN _ _ => .main
  | .ldRHl _ => .main
  | .ldRIxd _ _ => .dd
  | .ldRIyd _ _ => .fd
  | .ldHlR _ => .main
  | .ldIxdR _ _ => .dd
  | .ldIydR _ _ => .fd
  | .ldHlN _ => .main
  | .ldIxdN _ _ => .dd
  | .ldIydN _ _ => .fd
  | .ldABc => .main
  | .ldADe => .main
  | .ldANn _ => .main
  | .ldBcA => .main
  | .ldDeA => .main
  | .ldNnA _ => .main
  | .ldAI => .ed
  | .ldARefresh => .ed
  | .ldIA => .ed
  | .ldRefreshA => .ed
  | .ldDdNn _ _ => .main
  | .ldIxNn _ => .dd
  | .ldIyNn _ => .fd
  | .ldHlMem _ => .main
  | .ldDdMem _ _ => .ed
  | .ldIxMem _ => .dd
  | .ldIyMem _ => .fd
  | .ldMemHl _ => .main
  | .ldMemDd _ _ => .ed
  | .ldMemIx _ => .dd
  | .ldMemIy _ => .fd
  | .ldSpHl => .main
  | .ldSpIx => .dd
  | .ldSpIy => .fd
  | .pushQq _ => .main
  | .pushIx => .dd
  | .pushIy => .fd
  | .popQq _ => .main
  | .popIx => .dd
  | .popIy => .fd
  | .exDeHl => .main
  | .exAfAf => .main
  | .exx => .main
  | .exSpHl => .main
  | .exSpIx => .dd
  | .exSpIy => .fd
  | .ldi => .ed
  | .ldir => .ed
  | .ldd => .ed
  | .lddr => .ed
  | .cpi => .ed
  | .cpir => .ed
  | .cpd => .ed
  | .cpdr => .ed
  | .addAR _ => .main
  | .addAN _ => .main
  | .addAHl => .main
  | .addAIxd _ => .dd
  | .addAIyd _ => .fd
  | .adcAR _ => .main
  | .adcAN _ => .main
  | .adcAHl => .main
  | .adcAIxd _ => .dd
  | .adcAIyd _ => .fd
  | .subR _ => .main
  | .subN _ => .main
  | .subHl => .main
  | .subIxd _ => .dd
  | .subIyd _ => .fd
  | .sbcAR _ => .main
  | .sbcAN _ => .main
  | .sbcAHl => .main
  | .sbcAIxd _ => .dd
  | .sbcAIyd _ => .fd
  | .andR _ => .main
  | .andN _ => .main
  | .andHl => .main
  | .andIxd _ => .dd
  | .andIyd _ => .fd
  | .xorR _ => .main
  | .xorN _ => .main
  | .xorHl => .main
  | .xorIxd _ => .dd
  | .xorIyd _ => .fd
  | .orR _ => .main
  | .orN _ => .main
  | .orHl => .main
  | .orIxd _ => .dd
  | .orIyd _ => .fd
  | .cpR _ => .main
  | .cpN _ => .main
  | .cpHl => .main
  | .cpIxd _ => .dd
  | .cpIyd _ => .fd
  | .incR _ => .main
  | .incHl => .main
  | .incIxd _ => .dd
  | .incIyd _ => .fd
  | .decR _ => .main
  | .decHl => .main
  | .decIxd _ => .dd
  | .decIyd _ => .fd
  | .daa => .main
  | .cpl => .main
  | .neg => .ed
  | .ccf => .main
  | .scf => .main
  | .nop => .main
  | .halt => .main
  | .di => .main
  | .ei => .main
  | .im0 => .ed
  | .im1 => .ed
  | .im2 => .ed
  | .addHlSs _ => .main
  | .adcHlSs _ => .ed
  | .sbcHlSs _ => .ed
  | .addIxPp _ => .dd
  | .addIyRr _ => .fd
  | .incSs _ => .main
  | .decSs _ => .main
  | .incIx => .dd
  | .decIx => .dd
  | .incIy => .fd
  | .decIy => .fd
  | .rlca => .main
  | .rla => .main
  | .rrca => .main
  | .rra => .main
  | .rlcR _ => .cb
  | .rlcHl => .cb
  | .rlcIxd _ => .ddCb
  | .rlcIyd _ => .fdCb
  | .rrcR _ => .cb
  | .rrcHl => .cb
  | .rrcIxd _ => .ddCb
  | .rrcIyd _ => .fdCb
  | .rlR _ => .cb
  | .rlHl => .cb
  | .rlIxd _ => .ddCb
  | .rlIyd _ => .fdCb
  | .rrR _ => .cb
  | .rrHl => .cb
  | .rrIxd _ => .ddCb
  | .rrIyd _ => .fdCb
  | .slaR _ => .cb
  | .slaHl => .cb
  | .slaIxd _ => .ddCb
  | .slaIyd _ => .fdCb
  | .sraR _ => .cb
  | .sraHl => .cb
  | .sraIxd _ => .ddCb
  | .sraIyd _ => .fdCb
  | .srlR _ => .cb
  | .srlHl => .cb
  | .srlIxd _ => .ddCb
  | .srlIyd _ => .fdCb
  | .rld => .ed
  | .rrd => .ed
  | .bitBR _ _ => .cb
  | .bitBHl _ => .cb
  | .bitBIxd _ _ => .ddCb
  | .bitBIyd _ _ => .fdCb
  | .setBR _ _ => .cb
  | .setBHl _ => .cb
  | .setBIxd _ _ => .ddCb
  | .setBIyd _ _ => .fdCb
  | .resBR _ _ => .cb
  | .resBHl _ => .cb
  | .resBIxd _ _ => .ddCb
  | .resBIyd _ _ => .fdCb
  | .jpNn _ => .main
  | .jpCcNn _ _ => .main
  | .jrE _ => .main
  | .jrCE _ => .main
  | .jrNcE _ => .main
  | .jrZE _ => .main
  | .jrNzE _ => .main
  | .jpHl => .main
  | .jpIx => .dd
  | .jpIy => .fd
  | .djnzE _ => .main
  | .callNn _ => .main
  | .callCcNn _ _ => .main
  | .ret => .main
  | .retCc _ => .main
  | .reti => .ed
  | .retn => .ed
  | .rstP _ => .main
  | .inAN _ => .main
  | .inRC _ => .ed
  | .ini => .ed
  | .inir => .ed
  | .ind => .ed
  | .indr => .ed
  | .outNA _ => .main
  | .outCR _ => .ed
  | .outi => .ed
  | .otir => .ed
  | .outd => .ed
  | .otdr => .ed

/-- The length of an instruction in bytes (30_encoding.md rule R100, column `length` of opcode_table.json). -/
def Instr.length : Instr → Nat
  | .ldRR _ _ => 1
  | .ldRN _ _ => 2
  | .ldRHl _ => 1
  | .ldRIxd _ _ => 3
  | .ldRIyd _ _ => 3
  | .ldHlR _ => 1
  | .ldIxdR _ _ => 3
  | .ldIydR _ _ => 3
  | .ldHlN _ => 2
  | .ldIxdN _ _ => 4
  | .ldIydN _ _ => 4
  | .ldABc => 1
  | .ldADe => 1
  | .ldANn _ => 3
  | .ldBcA => 1
  | .ldDeA => 1
  | .ldNnA _ => 3
  | .ldAI => 2
  | .ldARefresh => 2
  | .ldIA => 2
  | .ldRefreshA => 2
  | .ldDdNn _ _ => 3
  | .ldIxNn _ => 4
  | .ldIyNn _ => 4
  | .ldHlMem _ => 3
  | .ldDdMem _ _ => 4
  | .ldIxMem _ => 4
  | .ldIyMem _ => 4
  | .ldMemHl _ => 3
  | .ldMemDd _ _ => 4
  | .ldMemIx _ => 4
  | .ldMemIy _ => 4
  | .ldSpHl => 1
  | .ldSpIx => 2
  | .ldSpIy => 2
  | .pushQq _ => 1
  | .pushIx => 2
  | .pushIy => 2
  | .popQq _ => 1
  | .popIx => 2
  | .popIy => 2
  | .exDeHl => 1
  | .exAfAf => 1
  | .exx => 1
  | .exSpHl => 1
  | .exSpIx => 2
  | .exSpIy => 2
  | .ldi => 2
  | .ldir => 2
  | .ldd => 2
  | .lddr => 2
  | .cpi => 2
  | .cpir => 2
  | .cpd => 2
  | .cpdr => 2
  | .addAR _ => 1
  | .addAN _ => 2
  | .addAHl => 1
  | .addAIxd _ => 3
  | .addAIyd _ => 3
  | .adcAR _ => 1
  | .adcAN _ => 2
  | .adcAHl => 1
  | .adcAIxd _ => 3
  | .adcAIyd _ => 3
  | .subR _ => 1
  | .subN _ => 2
  | .subHl => 1
  | .subIxd _ => 3
  | .subIyd _ => 3
  | .sbcAR _ => 1
  | .sbcAN _ => 2
  | .sbcAHl => 1
  | .sbcAIxd _ => 3
  | .sbcAIyd _ => 3
  | .andR _ => 1
  | .andN _ => 2
  | .andHl => 1
  | .andIxd _ => 3
  | .andIyd _ => 3
  | .xorR _ => 1
  | .xorN _ => 2
  | .xorHl => 1
  | .xorIxd _ => 3
  | .xorIyd _ => 3
  | .orR _ => 1
  | .orN _ => 2
  | .orHl => 1
  | .orIxd _ => 3
  | .orIyd _ => 3
  | .cpR _ => 1
  | .cpN _ => 2
  | .cpHl => 1
  | .cpIxd _ => 3
  | .cpIyd _ => 3
  | .incR _ => 1
  | .incHl => 1
  | .incIxd _ => 3
  | .incIyd _ => 3
  | .decR _ => 1
  | .decHl => 1
  | .decIxd _ => 3
  | .decIyd _ => 3
  | .daa => 1
  | .cpl => 1
  | .neg => 2
  | .ccf => 1
  | .scf => 1
  | .nop => 1
  | .halt => 1
  | .di => 1
  | .ei => 1
  | .im0 => 2
  | .im1 => 2
  | .im2 => 2
  | .addHlSs _ => 1
  | .adcHlSs _ => 2
  | .sbcHlSs _ => 2
  | .addIxPp _ => 2
  | .addIyRr _ => 2
  | .incSs _ => 1
  | .decSs _ => 1
  | .incIx => 2
  | .decIx => 2
  | .incIy => 2
  | .decIy => 2
  | .rlca => 1
  | .rla => 1
  | .rrca => 1
  | .rra => 1
  | .rlcR _ => 2
  | .rlcHl => 2
  | .rlcIxd _ => 4
  | .rlcIyd _ => 4
  | .rrcR _ => 2
  | .rrcHl => 2
  | .rrcIxd _ => 4
  | .rrcIyd _ => 4
  | .rlR _ => 2
  | .rlHl => 2
  | .rlIxd _ => 4
  | .rlIyd _ => 4
  | .rrR _ => 2
  | .rrHl => 2
  | .rrIxd _ => 4
  | .rrIyd _ => 4
  | .slaR _ => 2
  | .slaHl => 2
  | .slaIxd _ => 4
  | .slaIyd _ => 4
  | .sraR _ => 2
  | .sraHl => 2
  | .sraIxd _ => 4
  | .sraIyd _ => 4
  | .srlR _ => 2
  | .srlHl => 2
  | .srlIxd _ => 4
  | .srlIyd _ => 4
  | .rld => 2
  | .rrd => 2
  | .bitBR _ _ => 2
  | .bitBHl _ => 2
  | .bitBIxd _ _ => 4
  | .bitBIyd _ _ => 4
  | .setBR _ _ => 2
  | .setBHl _ => 2
  | .setBIxd _ _ => 4
  | .setBIyd _ _ => 4
  | .resBR _ _ => 2
  | .resBHl _ => 2
  | .resBIxd _ _ => 4
  | .resBIyd _ _ => 4
  | .jpNn _ => 3
  | .jpCcNn _ _ => 3
  | .jrE _ => 2
  | .jrCE _ => 2
  | .jrNcE _ => 2
  | .jrZE _ => 2
  | .jrNzE _ => 2
  | .jpHl => 1
  | .jpIx => 2
  | .jpIy => 2
  | .djnzE _ => 2
  | .callNn _ => 3
  | .callCcNn _ _ => 3
  | .ret => 1
  | .retCc _ => 1
  | .reti => 2
  | .retn => 2
  | .rstP _ => 1
  | .inAN _ => 2
  | .inRC _ => 2
  | .ini => 2
  | .inir => 2
  | .ind => 2
  | .indr => 2
  | .outNA _ => 2
  | .outCR _ => 2
  | .outi => 2
  | .otir => 2
  | .outd => 2
  | .otdr => 2

/-- What an instruction adds to `R[6:0]`: 1 on page `main`, 2 on every other (30_encoding.md rule R120). -/
def Instr.rIncrement (i : Instr) : Nat :=
  match i.page with
  | .main => 1
  | .cb | .ed | .dd | .fd | .ddCb | .fdCb => 2

/-- Bytes of an undefined encoding that the `nop` policy consumes (30_encoding.md rule R118). -/
def UndefClass.length : UndefClass → Nat
  | .cb => 2
  | .ed => 2
  | .xy => 1
  | .xyCb => 4

/-- What an undefined encoding adds to `R[6:0]` under the `nop` policy (rule R118). -/
def UndefClass.rIncrement : UndefClass → Nat
  | .cb => 2
  | .ed => 2
  | .xy => 1
  | .xyCb => 2

/-- How many bytes are read to find that an encoding is undefined (rules R101, R118). -/
def UndefClass.bytesRead : UndefClass → Nat
  | .cb => 2
  | .ed => 2
  | .xy => 2
  | .xyCb => 4

end Sys2Proof
end

