-- ==== Sys2Proof/WellFormed.lean ====
section
/-! DEFINITION. Which configurations and which instructions are well formed (00_scope.md rules R5, R6; the operand
codes of 30_encoding.md). -/

namespace Sys2Proof

/-- The ports a configuration claims (20_memory.md rule R71), one entry per claim. -/
def Config.claimedPorts (c : Config) : List Byte :=
  c.bankPort.filterMap id ++
    [c.uartData, c.uartStatus, c.diskBase, c.diskBase + 1#8, c.diskBase + 2#8, c.diskBase + 3#8, c.diskBase + 4#8,
      c.diskBase + 5#8, c.diskBase + 6#8, c.diskBase + 7#8, c.nvAddr, c.nvData]

/-- No element occurs twice. -/
def noRepeat : List Byte → Bool
  | [] => true
  | p :: ps => !(ps.contains p) && noRepeat ps

/-- `BANK_DECODE` is a total function into the physical pages. -/
def BankDecode.wellFormed (d : BankDecode) (nPhysPages : Nat) : Bool :=
  match d with
  | .modulo m => decide (1 ≤ m) && decide (m ≤ nPhysPages)
  | .table pages => (pages.length == 256) && pages.all (fun p => decide (p < nPhysPages))

/-- An ASCII letter. -/
def isLetter (c : Char) : Bool :=
  (decide (65 ≤ c.toNat) && decide (c.toNat ≤ 90)) || (decide (97 ≤ c.toNat) && decide (c.toNat ≤ 122))

/-- An ASCII decimal digit. -/
def isDigit (c : Char) : Bool := decide (48 ≤ c.toNat) && decide (c.toNat ≤ 57)

/-- A non-empty string of decimal digits. -/
def isNumber (cs : List Char) : Bool := !cs.isEmpty && cs.all isDigit

/-- The part of a string before its first full stop, and the part after it where there is one. -/
def splitAtDot : List Char → List Char × Option (List Char)
  | [] => ([], none)
  | '.' :: cs => ([], some cs)
  | c :: cs => (c :: (splitAtDot cs).1, (splitAtDot cs).2)

/-- `NV_MENU_STRING` as rule R5 wants it: not empty, ASCII, not a single letter, not a decimal number, not
`number.number`. -/
def menuStringWellFormed (cs : List Char) : Bool :=
  !cs.isEmpty && cs.all (fun c => decide (c.toNat < 128)) &&
    !((cs.length == 1) && cs.all isLetter) && !isNumber cs &&
    !(match splitAtDot cs with
      | (u, some t) => isNumber u && isNumber t
      | (_, none) => false)

/-- The sizes of windows, physical memory and ROM are in the ranges of rule R5. -/
def Config.pagesWellFormed (c : Config) : Bool :=
  decide (8 ≤ c.pageBits) && decide (c.pageBits ≤ 16) &&
  decide (c.nPhysPages ≤ 256) && decide (1 ≤ c.nRomPages) && decide (c.nRomPages < c.nPhysPages)

/-- Reset map, bank ports and bank decoding are as rule R5 wants them: one entry per window, pages that exist, window
0 in ROM at reset. -/
def Config.banksWellFormed (c : Config) : Bool :=
  (c.resetMap.length == c.nWindows) && c.resetMap.all (fun p => decide (p < c.nPhysPages)) &&
  decide (c.resetMap.headD c.nPhysPages < c.nRomPages) &&
  (c.bankPort.length == c.nWindows) && c.bankDecode.wellFormed c.nPhysPages

/-- The disk ports start at a multiple of 8, and no port is claimed twice (rules R5, R6). -/
def Config.portsWellFormed (c : Config) : Bool := (c.diskBase.toNat % 8 == 0) && noRepeat c.claimedPorts

/-- Sector size, NVRAM and batch budget are as rule R5 wants them. -/
def Config.devicesWellFormed (c : Config) : Bool :=
  decide (1 ≤ c.sectorSize) && !(c.nvSig == 0#8) && menuStringWellFormed c.nvMenuString && decide (1 ≤ c.batchBudget)

/-- The configuration is well formed (00_scope.md rule R6): every constraint of rule R5 holds and no port is
claimed twice. -/
def Config.wellFormed (c : Config) : Bool :=
  c.pagesWellFormed && c.banksWellFormed && c.portsWellFormed && c.devicesWellFormed

/-- Every value of `Instr` is a well-formed instruction: its operand types hold only the codes that the
constraints of opcode_table.json admit (a register code 6 or a fourth restart bit has no value to stand for it), so
nothing is left for a check to refuse. -/
def Instr.WellFormed (_i : Instr) : Prop := True

end Sys2Proof
end

