-- ==== Sys2Proof/Machine/Fetch.lean ====
section
/-! DEFINITION. Fetching and decoding at the pc, undefined encodings, and placing an instruction's bytes where it is
fetched (30_encoding.md rules R101, R117 to R119; 60_exceptions.md rule R503). -/

namespace Sys2Proof.Machine

/-- The instruction byte `k` places after the pc, through the bank map as it stands (20_memory.md rule R79). -/
def State.fetchByte (s : State) (k : Nat) : Byte := s.readByte (s.cpu.pc + BitVec.ofNat 16 k)

/-- `decode(pc)` (30_encoding.md rule R101). -/
def State.decodeAtPc (s : State) : Decoded :=
  decode (s.fetchByte 0) (s.fetchByte 1) (s.fetchByte 2) (s.fetchByte 3)

/-- An undefined encoding of class `c` (30_encoding.md rules R118, R119). -/
def State.runUndefined (s : State) (c : UndefClass) : Result :=
  match s.cfg.undefPolicy with
  | .nop => (s.beginInstr c.rIncrement).done c.length
  | .fault => .fault (.undefinedEncoding s.cpu.pc ((List.range c.bytesRead).map s.fetchByte))

/-- A maskable interrupt is accepted at this point (60_exceptions.md rules R502, R503). -/
def State.intAccepted (s : State) : Bool := s.pins.intLine && s.cpu.iff1 && !s.cpu.eiDelay

/-- The bytes stored in physical memory where logical addresses from `addr` on are read, ROM or RAM. -/
def State.placeBytes (s : State) (addr : Word) : List Byte → State
  | [] => s
  | v :: rest => (s.physWrite (s.translate addr) v).placeBytes (addr + 1#16) rest

/-- The state in which the next step fetches: not halted and no interrupt requested. -/
def State.fetching (s : State) : State :=
  { s with
    cpu := { s.cpu with halted := false }
    pins := { s.pins with nmiPending := false, intLine := false } }

end Sys2Proof.Machine
end

