-- ==== Sys2Proof/Machine/Step.lean ====
section
/-! DEFINITION. One step of the CPU (60_exceptions.md rule R503). -/

namespace Sys2Proof.Machine

/-- `step()`: an interrupt acceptance, a halted cycle, or one instruction. An ill-formed configuration is refused
(00_scope.md rule R6). -/
def step (s : State) : Host.Outcome State Fault Refusal :=
  if s.cfg.wellFormed = false then .refused .illFormedConfig
  else if s.pins.nmiPending then .next s.acceptNmi
  else if s.intAccepted then s.acceptInt
  else if s.cpu.halted then .next s.haltedCycle
  else
    match s.decodeAtPc with
    | .instr i => exec i (s.beginInstr i.rIncrement)
    | .undef c => s.runUndefined c

/-- The state with an instruction, whose bits are numbered as opcode_table.json numbers them, standing where the next
step fetches, and nothing in the way of that fetch. It stands for a ROM image the host loads (20_memory.md rule
R68). -/
def State.withFetchWord (s : State) (nbits w : Nat) : State :=
  (s.placeBytes s.cpu.pc (tableFetch nbits w)).fetching

end Sys2Proof.Machine
end

