-- ==== Sys2Proof/Machine/HostCalls.lean ====
section
/-! DEFINITION. The host's calls as total functions on the state (70_reset_and_hazards.md rules R600 to R609; the host
transactions of 20_memory.md and 60_exceptions.md). A call with a result gives the result beside the state. They
act between batches and no step calls them. -/

namespace Sys2Proof.Machine

/-- The CPU after a host reset (10_state.md rule R46): the registers the rule leaves unspecified hold draws of reset
number `epoch`. -/
def Cpu.drawn (epoch : Nat) : Cpu where
  a       := Config.regDraw epoch 0
  f       := Flags.ofByte (Config.regDraw epoch 1)
  b       := Config.regDraw epoch 2
  c       := Config.regDraw epoch 3
  d       := Config.regDraw epoch 4
  e       := Config.regDraw epoch 5
  h       := Config.regDraw epoch 6
  l       := Config.regDraw epoch 7
  shA     := Config.regDraw epoch 8
  shF     := Flags.ofByte (Config.regDraw epoch 9)
  shB     := Config.regDraw epoch 10
  shC     := Config.regDraw epoch 11
  shD     := Config.regDraw epoch 12
  shE     := Config.regDraw epoch 13
  shH     := Config.regDraw epoch 14
  shL     := Config.regDraw epoch 15
  ix      := mkWord (Config.regDraw epoch 16) (Config.regDraw epoch 17)
  iy      := mkWord (Config.regDraw epoch 18) (Config.regDraw epoch 19)
  sp      := mkWord (Config.regDraw epoch 20) (Config.regDraw epoch 21)
  pc      := 0x0000#16
  i       := 0x00#8
  r       := 0x00#8
  iff1    := false
  iff2    := false
  im      := .im0
  halted  := false
  eiDelay := false

/-- Memory at a reset: the bank map at `RESET_MAP`, ROM kept, every RAM byte unspecified again (10_state.md rule R47,
20_memory.md rule R69). -/
def MemUnit.reset (m : MemUnit) (cfg : Config) : MemUnit :=
  { m with
    bytes := m.bytes.filter (fun c => decide (c.1 < cfg.romSize))
    map := cfg.resetMap
    epoch := m.epoch + 1 }

/-- The guest-facing disk registers at a reset: cleared, a transfer in flight abandoned (10_state.md rule R47). -/
def Disk.resetGuest (d : Disk) : Disk :=
  { d with dkUnit := 0#4, dkLba := 0#32, dkState := .idle, dkErr := false, dkIdx := 0 }

/-- What `completeInit()` and `reset()` have in common (10_state.md rules R46, R47). -/
def State.hostReset (s : State) : State :=
  { s with
    cpu := Cpu.drawn (s.mem.epoch + 1)
    pins := { s.pins with nmiPending := false }
    mem := s.mem.reset s.cfg
    disk := s.disk.resetGuest
    nvram := { s.nvram with addr := 0x00#8 } }

/-- The bridge with no session (10_state.md rule R50). -/
def Bridge.empty : Bridge where
  state  := .idle
  name   := []
  buffer := []

/-- Everything as after `init()` (10_state.md rule R47), with a configuration and a lifecycle state. -/
def State.fresh (s : State) (cfg : Config) (life : Life) : State where
  cpu    := Cpu.drawn (s.mem.epoch + 1)
  pins   := { s.pins with nmiPending := false }
  mem    := { bytes := [], map := cfg.resetMap, epoch := s.mem.epoch + 1, romLoaded := false }
  uart   := { rx := [], tx := [] }
  disk   := Disk.init cfg.sectorSize
  nvram  := Nvram.init
  bridge := Bridge.empty
  life   := life
  draws  := s.draws
  cfg    := cfg

/-- `init()`, which fixes the configuration (70_reset_and_hazards.md rule R601); an ill-formed one is refused
(00_scope.md rule R6). -/
def State.hostInit (s : State) (cfg : Config) : Result :=
  match s.life with
  | .uninit => if cfg.wellFormed then .next (s.fresh cfg .created) else .refused .illFormedConfig
  | .created => .next s
  | .running => .next s

/-- `destroy()` (70_reset_and_hazards.md rule R603). -/
def State.hostDestroy (s : State) : State :=
  match s.life with
  | .uninit => s
  | .created => s.fresh s.cfg .uninit
  | .running => s.fresh s.cfg .uninit

/-- `loadRom(bytes)` (20_memory.md rule R68). -/
def State.hostLoadRom (s : State) (image : List Byte) : Bool × State :=
  match s.life with
  | .created =>
    if image.length = s.cfg.romSize then
      (true, { s with
        mem := { s.mem with
          bytes := image.zipIdx.map (fun c => (c.2, c.1)) ++
            s.mem.bytes.filter (fun c => decide (s.cfg.romSize ≤ c.1))
          romLoaded := true } })
    else (false, s)
  | .uninit => (false, s)
  | .running => (false, s)

/-- `completeInit()` (70_reset_and_hazards.md rule R604). -/
def State.hostCompleteInit (s : State) : State :=
  match s.life with
  | .created => if s.mem.romLoaded then { s.hostReset with life := .running } else s
  | .uninit => s
  | .running => s

/-- `reset()` (70_reset_and_hazards.md rule R608). -/
def State.hostResetCall (s : State) : State :=
  match s.life with
  | .running => { s.hostReset with bridge := Bridge.empty }
  | .uninit => s
  | .created => s

/-- The loop condition of `runBatch()`: not halted, or an interrupt about to be accepted (70_reset_and_hazards.md
rule R605). -/
def State.batchGoesOn (s : State) : Bool := !s.cpu.halted || s.pins.nmiPending || s.intAccepted

/-- At most `n` steps, while the batch goes on. -/
def runSteps : Nat → State → Result
  | 0, s => .next s
  | n + 1, s =>
    if s.batchGoesOn then
      match step s with
      | .next s' => runSteps n s'
      | .fault r => .fault r
      | .refused r => .refused r
    else .next s

/-- `drainOutput()` (60_exceptions.md rule R526). -/
def State.hostDrainOutput (s : State) : List Byte × State :=
  (s.uart.tx, { s with uart := { s.uart with tx := [] } })

/-- `runBatch()`: whether to go on, the bytes delivered, and the state (70_reset_and_hazards.md rules R605, R611). -/
def State.hostRunBatch (s : State) : Host.Outcome (Bool × List Byte × State) Fault Refusal :=
  match s.life with
  | .running =>
    match runSteps s.cfg.batchBudget s with
    | .next s' => .next (!s'.cpu.halted, s'.hostDrainOutput)
    | .fault r => .fault r
    | .refused r => .refused r
  | .uninit => .next (false, [], s)
  | .created => .next (false, [], s)

/-- `queueInput(byte)` (60_exceptions.md rule R524). -/
def State.hostQueueInput (s : State) (v : Byte) : State :=
  match s.life with
  | .uninit => s
  | .created => { s with uart := { s.uart with rx := s.uart.rx ++ [v] } }
  | .running => { s with uart := { s.uart with rx := s.uart.rx ++ [v] } }

/-- `queueInputString(s)`: the ASCII characters in order, others skipped (60_exceptions.md rule R525). -/
def State.hostQueueInputString (s : State) (cs : List Char) : State :=
  cs.foldl (fun t c => if c.toNat < 128 then t.hostQueueInput (BitVec.ofNat 8 c.toNat) else t) s

/-- The slice count of each loaded unit when `k` units are loaded (60_exceptions.md rule R546). -/
def slicePolicy (k : Nat) : Nat := if k = 1 then 8 else if k = 2 then 4 else 2

/-- The slice policy applied to every loaded unit (60_exceptions.md rule R546). -/
def Disk.applySlicePolicy (d : Disk) : Disk :=
  { d with
    units := d.units.map (fun r =>
      if r.loaded then { r with slices := slicePolicy (d.units.toList.countP DiskUnit.loaded) } else r) }

/-- The controller with the record of unit `u` changed, when there is such a unit. -/
def Disk.changeUnit (d : Disk) (u : Nat) (f : DiskUnit → DiskUnit) : Disk :=
  if h : u < 16 then { d with units := d.units.set u (f (d.units[u]'h)) h } else d

/-- The record of unit `u`, when there is such a unit. -/
def Disk.unit? (d : Disk) (u : Nat) : Option DiskUnit := if h : u < 16 then some (d.units[u]'h) else none

/-- `loadDisk` accepted (60_exceptions.md rule R545). -/
def Disk.load (d : Disk) (sectorSize u : Nat) (image : List Byte) : Disk :=
  let d1 := d.changeUnit u (fun r =>
    { r with
      loaded := true, image := image, total := image.length / sectorSize
      manifest := false, warnSuppressed := false, dirty := false })
  let d2 :=
    if d.dkState ≠ .idle ∧ d.dkCurUnit.toNat = u then { d1 with dkState := .idle, dkIdx := 0, dkErr := true } else d1
  d2.applySlicePolicy

/-- `loadDisk(unit, bytes)` (60_exceptions.md rule R545). -/
def State.hostLoadDisk (s : State) (u : Nat) (image : List Byte) : Bool × State :=
  if s.life = .uninit ∨ 15 < u ∨ image.length = 0 ∨ image.length % s.cfg.sectorSize ≠ 0 then (false, s)
  else (true, { s with disk := s.disk.load s.cfg.sectorSize u image })

/-- `isDiskDirty(u)` (60_exceptions.md rule R549). -/
def State.hostIsDiskDirty (s : State) (u : Nat) : Bool :=
  match s.life with
  | .uninit => false
  | .created | .running =>
    match s.disk.unit? u with
    | some r => r.loaded && r.dirty
    | none => false

/-- `getDiskData(u)` (60_exceptions.md rule R549). -/
def State.hostGetDiskData (s : State) (u : Nat) : List Byte :=
  match s.life with
  | .uninit => []
  | .created | .running =>
    match s.disk.unit? u with
    | some r => if r.loaded then r.image else []
    | none => []

/-- A host call that changes the record of unit `u`; ignored in `Uninit`. -/
def State.hostChangeUnit (s : State) (u : Nat) (f : DiskUnit → DiskUnit) : State :=
  match s.life with
  | .uninit => s
  | .created | .running => { s with disk := s.disk.changeUnit u f }

/-- `clearDiskDirty(u)` (60_exceptions.md rule R549). -/
def State.hostClearDiskDirty (s : State) (u : Nat) : State :=
  s.hostChangeUnit u (fun r => { r with dirty := false })

/-- `setDiskIsManifest(u, b)` (60_exceptions.md rule R549). -/
def State.hostSetDiskIsManifest (s : State) (u : Nat) (b : Bool) : State :=
  s.hostChangeUnit u (fun r => if r.loaded then { r with manifest := b } else r)

/-- `setDiskWarningSuppressed(u, b)` (60_exceptions.md rule R549). -/
def State.hostSetDiskWarningSuppressed (s : State) (u : Nat) (b : Bool) : State :=
  s.hostChangeUnit u (fun r => if r.loaded then { r with warnSuppressed := b } else r)

/-- `checkManifestWriteWarning()` (60_exceptions.md rule R548). -/
def State.hostCheckManifestWriteWarning (s : State) : Bool × State :=
  match s.life with
  | .uninit => (false, s)
  | .created | .running => (s.disk.manifestWarning, { s with disk := { s.disk with manifestWarning := false } })

/-- The record is valid: signature and checksum (60_exceptions.md rule R552). -/
def NvRecord.valid (nv : NvRecord) (cfg : Config) : Bool :=
  (nv.signature == cfg.nvSig) && (nv.checksum == (nv.sealed cfg.nvChecksum).checksum)

/-- `isInitialized()` (60_exceptions.md rule R552). -/
def State.hostIsInitialized (s : State) : Bool :=
  match s.life with
  | .uninit => false
  | .created | .running => s.nvram.record.signature == s.cfg.nvSig

/-- The decimal digit `d`. -/
def digitChar (d : Nat) : Char := Char.ofNat (48 + d)

/-- `dec(x)`, the decimal numeral of a number below 1000 without leading zeros (60_exceptions.md rule R556). -/
def decimal (x : Nat) : List Char :=
  if x < 10 then [digitChar x]
  else if x < 100 then [digitChar (x / 10), digitChar (x % 10)]
  else [digitChar (x / 100), digitChar (x / 10 % 10), digitChar (x % 10)]

/-- The boot option that a valid record encodes (60_exceptions.md rule R556). -/
def NvRecord.decoded (nv : NvRecord) (cfg : Config) : List Char :=
  if isLetter (Char.ofNat nv.selector.toNat) ∧ nv.unit = 0xFF#8 ∧ nv.slice = 0xFF#8 then
    [Char.ofNat nv.selector.toNat]
  else if nv.selector = 0x00#8 ∧ nv.unit.toNat ≤ 15 ∧ nv.slice = 0xFF#8 then decimal nv.unit.toNat
  else if nv.selector = 0x00#8 ∧ nv.unit.toNat ≤ 15 ∧ nv.slice.toNat ≤ 254 then
    decimal nv.unit.toNat ++ ['.'] ++ decimal nv.slice.toNat
  else if nv.selector = 0x00#8 ∧ nv.unit = 0xFF#8 ∧ nv.slice = 0xFF#8 then cfg.nvMenuString
  else []

/-- `getSetting()` (60_exceptions.md rule R556). -/
def State.hostGetSetting (s : State) : List Char :=
  match s.life with
  | .uninit => []
  | .created | .running => if s.nvram.record.valid s.cfg then s.nvram.record.decoded s.cfg else []

/-- A numeral: `0`, or a non-zero digit followed by digits (60_exceptions.md rule R557). -/
def isNumeral (cs : List Char) : Bool := (cs == ['0']) || (isNumber cs && cs.headD '0' != '0')

/-- The value of a string of digits. -/
def numeralValue (cs : List Char) : Nat := cs.foldl (fun v c => v * 10 + (c.toNat - 48)) 0

/-- Selector, unit and slice of an accepted boot option, none for a malformed string (60_exceptions.md rule R557). -/
def parseSetting (cfg : Config) (cs : List Char) : Option (Byte × Byte × Byte) :=
  if cs = cfg.nvMenuString then some (0x00#8, 0xFF#8, 0xFF#8)
  else if cs.length = 1 ∧ cs.all isLetter then some (BitVec.ofNat 8 (cs.headD '0').toNat, 0xFF#8, 0xFF#8)
  else
    match splitAtDot cs with
    | (u, none) =>
      if isNumeral u ∧ numeralValue u ≤ 15 then some (0x00#8, BitVec.ofNat 8 (numeralValue u), 0xFF#8) else none
    | (u, some t) =>
      if isNumeral u ∧ numeralValue u ≤ 15 ∧ isNumeral t ∧ numeralValue t ≤ 254 then
        some (0x00#8, BitVec.ofNat 8 (numeralValue u), BitVec.ofNat 8 (numeralValue t))
      else none

/-- `setSetting(s)` (60_exceptions.md rule R557). -/
def State.hostSetSetting (s : State) (cs : List Char) : Bool × State :=
  match s.life with
  | .uninit => (false, s)
  | .created | .running =>
    match parseSetting s.cfg cs with
    | some (sel, unit, slice) =>
      (true, { s with
        nvram := { s.nvram with
          record :=
            { s.nvram.record with signature := s.cfg.nvSig, selector := sel, unit := unit, slice := slice }.sealed
              s.cfg.nvChecksum
          dirty := true } })
    | none => (false, s)

/-- `hasChange()` (60_exceptions.md rule R558). -/
def State.hostHasChange (s : State) : Bool × State :=
  match s.life with
  | .uninit => (false, s)
  | .created | .running => (s.nvram.dirty, { s with nvram := { s.nvram with dirty := false } })

/-- `provideData(bytes)` (60_exceptions.md rules R561, R564): the bytes go to the guest side, which no rule describes,
before the call returns. -/
def State.hostProvideData (s : State) (_bytes : List Byte) : State :=
  match s.bridge.state with
  | .waitingRead => { s with bridge := Bridge.empty }
  | .idle | .reading | .writing | .writeReady => s

/-- `cancel()` (60_exceptions.md rules R563, R564). -/
def State.hostCancel (s : State) : State :=
  match s.bridge.state with
  | .waitingRead => { s with bridge := Bridge.empty }
  | .idle | .reading | .writing | .writeReady => s

/-- `writeDone()` (60_exceptions.md rules R562, R564). -/
def State.hostWriteDone (s : State) : State :=
  match s.bridge.state with
  | .writeReady => { s with bridge := Bridge.empty }
  | .idle | .waitingRead | .reading | .writing => s

/-- The bridge's state number (60_exceptions.md rule R564). -/
def State.hostBridgeState (s : State) : Nat :=
  match s.bridge.state with
  | .idle => 0
  | .waitingRead => 1
  | .reading => 2
  | .writing => 3
  | .writeReady => 4

/-- The file name the host can read (60_exceptions.md rule R564). -/
def State.hostBridgeName (s : State) : List Byte :=
  match s.bridge.state with
  | .waitingRead | .writeReady => s.bridge.name
  | .idle | .reading | .writing => []

/-- The bytes the host can read (60_exceptions.md rule R564). -/
def State.hostBridgeData (s : State) : List Byte :=
  match s.bridge.state with
  | .writeReady => s.bridge.buffer
  | .idle | .waitingRead | .reading | .writing => []

end Sys2Proof.Machine
end

