-- ==== Sys2Proof/Machine/Timing.lean ====
section
/-! DEFINITION. The T-states that a step returns (70_reset_and_hazards.md rule R640, 60_exceptions.md rule R503). They are
data: no other definition reads them. -/

namespace Sys2Proof.Machine

/-- The T-states of an instruction executed in state `s` (rule R640): where a count depends on whether a condition
holds or an iteration repeats, `s` decides. -/
def tStates (i : Instr) (s : State) : Nat :=
  match i with
  | .ldRR _ _ => 4
  | .ldRN _ _ => 7
  | .ldRHl _ => 7
  | .ldRIxd _ _ => 19
  | .ldRIyd _ _ => 19
  | .ldHlR _ => 7
  | .ldIxdR _ _ => 19
  | .ldIydR _ _ => 19
  | .ldHlN _ => 10
  | .ldIxdN _ _ => 19
  | .ldIydN _ _ => 19
  | .ldABc => 7
  | .ldADe => 7
  | .ldANn _ => 13
  | .ldBcA => 7
  | .ldDeA => 7
  | .ldNnA _ => 13
  | .ldAI => 9
  | .ldARefresh => 9
  | .ldIA => 9
  | .ldRefreshA => 9
  | .ldDdNn _ _ => 10
  | .ldIxNn _ => 14
  | .ldIyNn _ => 14
  | .ldHlMem _ => 16
  | .ldDdMem _ _ => 20
  | .ldIxMem _ => 20
  | .ldIyMem _ => 20
  | .ldMemHl _ => 16
  | .ldMemDd _ _ => 20
  | .ldMemIx _ => 20
  | .ldMemIy _ => 20
  | .ldSpHl => 6
  | .ldSpIx => 10
  | .ldSpIy => 10
  | .pushQq _ => 11
  | .pushIx => 15
  | .pushIy => 15
  | .popQq _ => 10
  | .popIx => 14
  | .popIy => 14
  | .exDeHl => 4
  | .exAfAf => 4
  | .exx => 4
  | .exSpHl => 19
  | .exSpIx => 23
  | .exSpIy => 23
  | .ldi => 16
  | .ldir => if s.bc - 1#16 = 0#16 then 16 else 21
  | .ldd => 16
  | .lddr => if s.bc - 1#16 = 0#16 then 16 else 21
  | .cpi => 16
  | .cpir => if s.bc - 1#16 = 0#16 ∨ s.cpu.a = s.readByte s.hl then 16 else 21
  | .cpd => 16
  | .cpdr => if s.bc - 1#16 = 0#16 ∨ s.cpu.a = s.readByte s.hl then 16 else 21
  | .addAR _ => 4
  | .addAN _ => 7
  | .addAHl => 7
  | .addAIxd _ => 19
  | .addAIyd _ => 19
  | .adcAR _ => 4
  | .adcAN _ => 7
  | .adcAHl => 7
  | .adcAIxd _ => 19
  | .adcAIyd _ => 19
  | .subR _ => 4
  | .subN _ => 7
  | .subHl => 7
  | .subIxd _ => 19
  | .subIyd _ => 19
  | .sbcAR _ => 4
  | .sbcAN _ => 7
  | .sbcAHl => 7
  | .sbcAIxd _ => 19
  | .sbcAIyd _ => 19
  | .andR _ => 4
  | .andN _ => 7
  | .andHl => 7
  | .andIxd _ => 19
  | .andIyd _ => 19
  | .xorR _ => 4
  | .xorN _ => 7
  | .xorHl => 7
  | .xorIxd _ => 19
  | .xorIyd _ => 19
  | .orR _ => 4
  | .orN _ => 7
  | .orHl => 7
  | .orIxd _ => 19
  | .orIyd _ => 19
  | .cpR _ => 4
  | .cpN _ => 7
  | .cpHl => 7
  | .cpIxd _ => 19
  | .cpIyd _ => 19
  | .incR _ => 4
  | .incHl => 11
  | .incIxd _ => 23
  | .incIyd _ => 23
  | .decR _ => 4
  | .decHl => 11
  | .decIxd _ => 23
  | .decIyd _ => 23
  | .daa => 4
  | .cpl => 4
  | .neg => 8
  | .ccf => 4
  | .scf => 4
  | .nop => 4
  | .halt => 4
  | .di => 4
  | .ei => 4
  | .im0 => 8
  | .im1 => 8
  | .im2 => 8
  | .addHlSs _ => 11
  | .adcHlSs _ => 15
  | .sbcHlSs _ => 15
  | .addIxPp _ => 15
  | .addIyRr _ => 15
  | .incSs _ => 6
  | .decSs _ => 6
  | .incIx => 10
  | .decIx => 10
  | .incIy => 10
  | .decIy => 10
  | .rlca => 4
  | .rla => 4
  | .rrca => 4
  | .rra => 4
  | .rlcR _ => 8
  | .rlcHl => 15
  | .rlcIxd _ => 23
  | .rlcIyd _ => 23
  | .rrcR _ => 8
  | .rrcHl => 15
  | .rrcIxd _ => 23
  | .rrcIyd _ => 23
  | .rlR _ => 8
  | .rlHl => 15
  | .rlIxd _ => 23
  | .rlIyd _ => 23
  | .rrR _ => 8
  | .rrHl => 15
  | .rrIxd _ => 23
  | .rrIyd _ => 23
  | .slaR _ => 8
  | .slaHl => 15
  | .slaIxd _ => 23
  | .slaIyd _ => 23
  | .sraR _ => 8
  | .sraHl => 15
  | .sraIxd _ => 23
  | .sraIyd _ => 23
  | .srlR _ => 8
  | .srlHl => 15
  | .srlIxd _ => 23
  | .srlIyd _ => 23
  | .rld => 18
  | .rrd => 18
  | .bitBR _ _ => 8
  | .bitBHl _ => 12
  | .bitBIxd _ _ => 20
  | .bitBIyd _ _ => 20
  | .setBR _ _ => 8
  | .setBHl _ => 15
  | .setBIxd _ _ => 23
  | .setBIyd _ _ => 23
  | .resBR _ _ => 8
  | .resBHl _ => 15
  | .resBIxd _ _ => 23
  | .resBIyd _ _ => 23
  | .jpNn _ => 10
  | .jpCcNn _ _ => 10
  | .jrE _ => 12
  | .jrCE _ => if s.cpu.f.cond .c then 12 else 7
  | .jrNcE _ => if s.cpu.f.cond .nc then 12 else 7
  | .jrZE _ => if s.cpu.f.cond .z then 12 else 7
  | .jrNzE _ => if s.cpu.f.cond .nz then 12 else 7
  | .jpHl => 4
  | .jpIx => 8
  | .jpIy => 8
  | .djnzE _ => if s.cpu.b - 1#8 ≠ 0#8 then 13 else 8
  | .callNn _ => 17
  | .callCcNn cc _ => if s.cpu.f.cond cc then 17 else 10
  | .ret => 10
  | .retCc cc => if s.cpu.f.cond cc then 11 else 5
  | .reti => 14
  | .retn => 14
  | .rstP _ => 11
  | .inAN _ => 11
  | .inRC _ => 12
  | .ini => 16
  | .inir => if s.cpu.b - 1#8 = 0#8 then 16 else 21
  | .ind => 16
  | .indr => if s.cpu.b - 1#8 = 0#8 then 16 else 21
  | .outNA _ => 11
  | .outCR _ => 12
  | .outi => 16
  | .otir => if s.cpu.b - 1#8 = 0#8 then 16 else 21
  | .outd => 16
  | .otdr => if s.cpu.b - 1#8 = 0#8 then 16 else 21

/-- The T-states of an undefined encoding under the `nop` policy (30_encoding.md rule R118). -/
def UndefClass.tStates : UndefClass → Nat
  | .cb => 8
  | .ed => 8
  | .xy => 4
  | .xyCb => 23

/-- The T-states that `step` returns in state `s` (60_exceptions.md rule R503): 11 for a non-maskable interrupt, 13 or
19 for a maskable one, 4 for a halted cycle. -/
def stepTStates (s : State) : Nat :=
  if s.pins.nmiPending then 11
  else if s.intAccepted then
    match s.cpu.im with
    | .im0 => 13
    | .im1 => 13
    | .im2 => 19
  else if s.cpu.halted then 4
  else
    match s.decodeAtPc with
    | .instr i => tStates i s
    | .undef c => UndefClass.tStates c

end Sys2Proof.Machine
end

