-- ==== Sys2Proof/Safety.lean ====
section
/-! DEFINITION. The vocabulary of the statements about this machine: the invariant of the state, what an instruction
leaves alone, what memory holds after a list of stores, and flags read as propositions. The formulas are written
from the spec's integer laws, not from the definitions of the model. -/

namespace Sys2Proof.Machine

/-- A byte has an even number of 1 bits (43_arith8.md rule R257). -/
def EvenOnes (v : Byte) : Prop := ((List.range 8).countP fun k => v.getLsbD k) % 2 = 0

/-- The six flags a rule computes, each given as a proposition (10_state.md rule R26); bits 5 and 3 are left open
(rule R27). -/
def Flags.Are (f : Flags) (s z h pv n c : Prop) : Prop :=
  (f.s = true ↔ s) ∧ (f.z = true ↔ z) ∧ (f.h = true ↔ h) ∧ (f.pv = true ↔ pv) ∧ (f.n = true ↔ n) ∧ (f.c = true ↔ c)

/-- The registers with `r[k]` replaced (10_state.md rule R20). -/
def Cpu.put (x : Cpu) (r : Reg8) (v : Byte) : Cpu :=
  { x with
    a := if r = .a then v else x.a
    b := if r = .b then v else x.b
    c := if r = .c then v else x.c
    d := if r = .d then v else x.d
    e := if r = .e then v else x.e
    h := if r = .h then v else x.h
    l := if r = .l then v else x.l }

/-- The registers with a pair or SP replaced: the high half is the register named first (10_state.md rule R21). -/
def Cpu.putPair (x : Cpu) (p : Pair) (v : Word) : Cpu :=
  { x with
    b  := if p = .bc then hiByte v else x.b
    c  := if p = .bc then loByte v else x.c
    d  := if p = .de then hiByte v else x.d
    e  := if p = .de then loByte v else x.e
    h  := if p = .hl then hiByte v else x.h
    l  := if p = .hl then loByte v else x.l
    sp := if p = .sp then v else x.sp }

/-- Everything outside the CPU and memory is the same: interrupt inputs, devices, bridge, lifecycle, configuration. -/
def SameRest (s t : State) : Prop :=
  t.pins = s.pins ∧ t.uart = s.uart ∧ t.disk = s.disk ∧ t.nvram = s.nvram ∧ t.bridge = s.bridge ∧ t.life = s.life ∧
    t.cfg = s.cfg

/-- What physical address `pa` holds after `stores`, made in `s` in the order of the list: a store to a ROM page is
dropped, any other puts its byte at the translation of its logical address (20_memory.md rules R61, R66). -/
def heldAfter (s : State) (stores : List (Word × Byte)) (pa : Nat) : Byte :=
  stores.foldl (fun v st => if s.isRom st.1 = false ∧ s.translate st.1 = pa then st.2 else v) (s.physRead pa)

/-- Memory of `t` is that of `s` after `stores` and nothing else: every physical byte, every logical byte, the bank
map. With no stores, every byte reads as before. -/
def MemoryAfter (s t : State) (stores : List (Word × Byte)) : Prop :=
  t.mem.map = s.mem.map ∧ t.mem.epoch = s.mem.epoch ∧ t.mem.romLoaded = s.mem.romLoaded ∧
    (∀ pa, t.physRead pa = heldAfter s stores pa) ∧ (∀ a, t.readByte a = heldAfter s stores (s.translate a))

/-- From `s` to `t` the CPU becomes `cpu`, memory takes `stores`, and nothing else changes. -/
def Becomes (s t : State) (cpu : Cpu) (stores : List (Word × Byte)) : Prop :=
  t.cpu = cpu ∧ MemoryAfter s t stores ∧ SameRest s t

/-- The same for an instruction that computes flags: F is given apart, the rest of the CPU becomes `cpu`. -/
def BecomesF (s t : State) (cpu : Cpu) (stores : List (Word × Byte)) : Prop :=
  t.cpu = { cpu with f := t.cpu.f } ∧ MemoryAfter s t stores ∧ SameRest s t

/-- What an instruction's rule says beside its operation: its bytes (`Encoding`), its length, what it adds to R, and
its T-states in state `s`. -/
def Row (i : Instr) (s : State) (bytes : List Byte) (rInc t : Nat) : Prop :=
  decodeBytes bytes = .instr i ∧ i.length = bytes.length ∧ i.rIncrement = rInc ∧ tStates i s = t

/-- Instruction `i` in `s` puts `v` in register `r` and goes on after `len` bytes; nothing else changes. -/
def LoadsReg (i : Instr) (s : State) (r : Reg8) (v : Byte) (len : Nat) : Prop :=
  ∃ t, exec i s = .next t ∧ Becomes s t { s.cpu.put r v with pc := s.cpu.pc + BitVec.ofNat 16 len } []

/-- Instruction `i` in `s` makes `stores` and goes on after `len` bytes; nothing else changes. -/
def Stores (i : Instr) (s : State) (stores : List (Word × Byte)) (len : Nat) : Prop :=
  ∃ t, exec i s = .next t ∧ Becomes s t { s.cpu with pc := s.cpu.pc + BitVec.ofNat 16 len } stores

/-- Instruction `i` in `s` turns the CPU into `cpu` but for pc, and goes on after `len` bytes; nothing else changes. -/
def SetsCpu (i : Instr) (s : State) (cpu : Cpu) (len : Nat) : Prop :=
  ∃ t, exec i s = .next t ∧ Becomes s t { cpu with pc := s.cpu.pc + BitVec.ofNat 16 len } []

/-- Instruction `i` in `s` adds `v` and the carry `cin` to A by the integer law of 43_arith8.md rule R258. -/
def AddsToA (i : Instr) (s : State) (v : Byte) (cin : Bool) (len : Nat) : Prop :=
  ∃ t, exec i s = .next t ∧
    BecomesF s t { s.cpu with a := t.cpu.a, pc := s.cpu.pc + BitVec.ofNat 16 len } [] ∧
    t.cpu.a.toNat = (s.cpu.a.toNat + v.toNat + cin.toNat) % 256 ∧
    t.cpu.f.Are (128 ≤ t.cpu.a.toNat) (t.cpu.a.toNat = 0)
      (15 < s.cpu.a.toNat % 16 + v.toNat % 16 + cin.toNat)
      (s.cpu.a.toInt + v.toInt + cin.toNat < -128 ∨ 127 < s.cpu.a.toInt + v.toInt + cin.toNat)
      False (255 < s.cpu.a.toNat + v.toNat + cin.toNat)

/-- The flags of `a - v - cin` with result `res`, by the integer law of 43_arith8.md rule R259. -/
def SubFlags (f : Flags) (a v : Byte) (cin : Bool) (res : Nat) : Prop :=
  f.Are (128 ≤ res) (res = 0) (a.toNat % 16 < v.toNat % 16 + cin.toNat)
    (a.toInt - v.toInt - cin.toNat < -128 ∨ 127 < a.toInt - v.toInt - cin.toNat)
    True (a.toNat < v.toNat + cin.toNat)

/-- Instruction `i` in `s` subtracts `v` and the borrow `cin` from A (43_arith8.md rule R259). -/
def SubsFromA (i : Instr) (s : State) (v : Byte) (cin : Bool) (len : Nat) : Prop :=
  ∃ t, exec i s = .next t ∧
    BecomesF s t { s.cpu with a := t.cpu.a, pc := s.cpu.pc + BitVec.ofNat 16 len } [] ∧
    (t.cpu.a.toNat : Int) = ((s.cpu.a.toNat : Int) - v.toNat - cin.toNat) % 256 ∧
    SubFlags t.cpu.f s.cpu.a v cin t.cpu.a.toNat

/-- Instruction `i` in `s` compares A with `v`: the flags of the subtraction, A kept (43_arith8.md rule R297). -/
def ComparesA (i : Instr) (s : State) (v : Byte) (len : Nat) : Prop :=
  ∃ t, exec i s = .next t ∧
    BecomesF s t { s.cpu with pc := s.cpu.pc + BitVec.ofNat 16 len } [] ∧
    SubFlags t.cpu.f s.cpu.a v false ((s.cpu.a.toNat + 256 - v.toNat) % 256)

/-- Instruction `i` in `s` puts in A the byte whose bit `k` is `op` of the bits `k` of A and `v`, with the flags of
43_arith8.md rule R260 and half carry `h`. -/
def LogicOnA (i : Instr) (s : State) (v : Byte) (op : Bool → Bool → Bool) (h : Prop) (len : Nat) : Prop :=
  ∃ t, exec i s = .next t ∧
    BecomesF s t { s.cpu with a := t.cpu.a, pc := s.cpu.pc + BitVec.ofNat 16 len } [] ∧
    (∀ k, k < 8 → t.cpu.a.getLsbD k = op (s.cpu.a.getLsbD k) (v.getLsbD k)) ∧
    t.cpu.f.Are (128 ≤ t.cpu.a.toNat) (t.cpu.a.toNat = 0) h (EvenOnes t.cpu.a) False False

/-- `res` and `f` are the result and the flags of `INC` on `v` with carry flag `c` before (43_arith8.md rule R261). -/
def IncOf (f : Flags) (v res : Byte) (c : Bool) : Prop :=
  res.toNat = (v.toNat + 1) % 256 ∧
    f.Are (128 ≤ res.toNat) (res.toNat = 0) (v.toNat % 16 = 15) (v.toInt + 1 = 128) False (c = true)

/-- `res` and `f` are the result and the flags of `DEC` on `v` with carry flag `c` before (43_arith8.md rule R261). -/
def DecOf (f : Flags) (v res : Byte) (c : Bool) : Prop :=
  res.toNat = (v.toNat + 255) % 256 ∧
    f.Are (128 ≤ res.toNat) (res.toNat = 0) (v.toNat % 16 = 0) (v.toInt - 1 = -129) True (c = true)

/-- Bit `k` of the result of a rotate or shift of `v` (46_rotate_shift.md rule R335), with the carry flag `cin`. -/
def rotBit (op : RotOp) (v : Byte) (cin : Bool) (k : Nat) : Bool :=
  match op with
  | .rlc => v.getLsbD ((k + 7) % 8)
  | .rrc => v.getLsbD ((k + 1) % 8)
  | .rl  => if k = 0 then cin else v.getLsbD (k - 1)
  | .rr  => if k = 7 then cin else v.getLsbD (k + 1)
  | .sla => if k = 0 then false else v.getLsbD (k - 1)
  | .sra => if k = 7 then v.getLsbD 7 else v.getLsbD (k + 1)
  | .srl => if k = 7 then false else v.getLsbD (k + 1)

/-- The bit a rotate or shift moves to the carry flag (46_rotate_shift.md rule R335). -/
def rotOut (op : RotOp) (v : Byte) : Bool :=
  match op with
  | .rlc => v.getLsbD 7
  | .rrc => v.getLsbD 0
  | .rl  => v.getLsbD 7
  | .rr  => v.getLsbD 0
  | .sla => v.getLsbD 7
  | .sra => v.getLsbD 0
  | .srl => v.getLsbD 0

/-- `res` and `f` are the result and the flags of a rotate or shift of the CB page (rule R335). -/
def ShiftOf (op : RotOp) (f : Flags) (v res : Byte) (cin : Bool) : Prop :=
  (∀ k, k < 8 → res.getLsbD k = rotBit op v cin k) ∧
    f.Are (128 ≤ res.toNat) (res.toNat = 0) False (EvenOnes res) False (rotOut op v = true)

/-- Instruction `i` in `s` changes register `r` to a value, and F, of which `P` holds. -/
def ChangesReg (i : Instr) (s : State) (r : Reg8) (len : Nat) (P : Flags → Byte → Prop) : Prop :=
  ∃ t res, exec i s = .next t ∧
    BecomesF s t { s.cpu.put r res with pc := s.cpu.pc + BitVec.ofNat 16 len } [] ∧ P t.cpu.f res

/-- Instruction `i` in `s` stores at `ea` a value, and sets F, of which `P` holds. -/
def ChangesMem (i : Instr) (s : State) (ea : Word) (len : Nat) (P : Flags → Byte → Prop) : Prop :=
  ∃ t res, exec i s = .next t ∧
    BecomesF s t { s.cpu with pc := s.cpu.pc + BitVec.ofNat 16 len } [(ea, res)] ∧ P t.cpu.f res

/-- Instruction `i` in `s` writes `v` to bit `b` of register `r`, whose other bits it keeps; nothing else changes. -/
def WritesBitOfReg (i : Instr) (s : State) (b : BitVec 3) (r : Reg8) (v : Bool) : Prop :=
  ∃ t res, exec i s = .next t ∧ Becomes s t { s.cpu.put r res with pc := s.cpu.pc + 2#16 } [] ∧
    ∀ k, k < 8 → res.getLsbD k = if k = b.toNat then v else (s.reg r).getLsbD k

/-- Instruction `i` in `s` stores at `ea` the byte read there with bit `b` written to `v`; nothing else changes. -/
def WritesBitOfMem (i : Instr) (s : State) (b : BitVec 3) (ea : Word) (v : Bool) (len : Nat) : Prop :=
  ∃ t res, exec i s = .next t ∧ Becomes s t { s.cpu with pc := s.cpu.pc + BitVec.ofNat 16 len } [(ea, res)] ∧
    ∀ k, k < 8 → res.getLsbD k = if k = b.toNat then v else (s.readByte ea).getLsbD k

/-- Instruction `i` in `s` tests bit `b` of `v` (47_bit.md rule R370): only F changes. -/
def TestsBit (i : Instr) (s : State) (b : BitVec 3) (v : Byte) (len : Nat) : Prop :=
  ∃ t, exec i s = .next t ∧ BecomesF s t { s.cpu with pc := s.cpu.pc + BitVec.ofNat 16 len } [] ∧
    t.cpu.f.Are (b = 7#3 ∧ v.getLsbD 7 = true) (v.getLsbD b.toNat = false) True (v.getLsbD b.toNat = false) False
      (s.cpu.f.c = true)

/-- F after a 16-bit `ADD` of `a` and `b` in a state with flags `f` (45_arith16.md rule R322): S, Z, P/V kept. -/
def Add16Flags (f g : Flags) (a b : Word) : Prop :=
  g.Are (f.s = true) (f.z = true) (4095 < a.toNat % 4096 + b.toNat % 4096) (f.pv = true) False
    (65535 < a.toNat + b.toNat)

/-- Instruction `i` in `s` is an accumulator rotate (46_rotate_shift.md rules R336 to R339). -/
def RotatesA (i : Instr) (s : State) (op : RotOp) : Prop :=
  ∃ t, exec i s = .next t ∧
    BecomesF s t { s.cpu with a := t.cpu.a, pc := s.cpu.pc + 1#16 } [] ∧
    (∀ k, k < 8 → t.cpu.a.getLsbD k = rotBit op s.cpu.a s.cpu.f.c k) ∧
    t.cpu.f.Are (s.cpu.f.s = true) (s.cpu.f.z = true) False (s.cpu.f.pv = true) False (rotOut op s.cpu.a = true)

/-- One iteration of a block transfer, with HL and DE moved by `step` (42_exchange_block.md rule R249), that ends with
pc as given. -/
def MovesByte (i : Instr) (s : State) (step pc : Word) : Prop :=
  ∃ t, exec i s = .next t ∧
    BecomesF s t
      { ((s.cpu.putPair .hl (s.hl + step)).putPair .de (s.de + step)).putPair .bc (s.bc - 1#16) with pc := pc }
      [(s.de, s.readByte s.hl)] ∧
    t.cpu.f.Are (s.cpu.f.s = true) (s.cpu.f.z = true) False (s.bc ≠ 1#16) False (s.cpu.f.c = true)

/-- One iteration of a block search, with HL moved by `step` (42_exchange_block.md rule R253), that ends with pc as
given. -/
def SearchesByte (i : Instr) (s : State) (step pc : Word) : Prop :=
  ∃ t, exec i s = .next t ∧
    BecomesF s t { (s.cpu.putPair .hl (s.hl + step)).putPair .bc (s.bc - 1#16) with pc := pc } [] ∧
    t.cpu.f.Are (128 ≤ (s.cpu.a.toNat + 256 - (s.readByte s.hl).toNat) % 256) (s.cpu.a = s.readByte s.hl)
      (s.cpu.a.toNat % 16 < (s.readByte s.hl).toNat % 16) (s.bc ≠ 1#16) True (s.cpu.f.c = true)

/-- Instruction `i` in `s` goes to `pc` and changes nothing else. -/
def GoesTo (i : Instr) (s : State) (pc : Word) : Prop :=
  ∃ t, exec i s = .next t ∧ Becomes s t { s.cpu with pc := pc } []

/-- Instruction `i` in `s` pushes `ret` and goes to `pc` (41_load16.md rule R221): the high byte at SP - 1, then the
low byte at SP - 2. -/
def Calls (i : Instr) (s : State) (ret pc : Word) : Prop :=
  ∃ t, exec i s = .next t ∧
    Becomes s t { s.cpu with sp := s.cpu.sp - 2#16, pc := pc }
      [(s.cpu.sp - 1#16, hiByte ret), (s.cpu.sp - 2#16, loByte ret)]

/-- Instruction `i` in `s` pops pc (41_load16.md rule R222) and leaves IFF1 as given. -/
def Returns (i : Instr) (s : State) (iff1 : Bool) : Prop :=
  ∃ t, exec i s = .next t ∧
    Becomes s t
      { s.cpu with
        sp := s.cpu.sp + 2#16, pc := mkWord (s.readByte (s.cpu.sp + 1#16)) (s.readByte s.cpu.sp), iff1 := iff1 } []

/-- One iteration of a block input (49_io.md rule R402): the byte read from the port of BC is stored at HL, HL moves by
`step`, B is decremented, Z tells whether it became 0, and pc is as given. The other flags are left open. -/
def InputsByte (i : Instr) (s : State) (step pc : Word) : Prop :=
  ∃ t, exec i s = .next t ∧
    BecomesF (s.ioRead s.bc).2 t
      { (s.cpu.putPair .hl (s.hl + step)).put .b (s.cpu.b - 1#8) with pc := pc } [(s.hl, (s.ioRead s.bc).1)] ∧
    (t.cpu.f.z = true ↔ s.cpu.b = 1#8)

/-- One iteration of a block output (49_io.md rule R408): the byte at HL is written to the port of BC with B
decremented, HL moves by `step`, Z tells whether B became 0, and pc is as given. The other flags are left open. -/
def OutputsByte (i : Instr) (s : State) (step pc : Word) : Prop :=
  ∃ t, exec i s = .next t ∧
    BecomesF (s.ioWrite (mkWord (s.cpu.b - 1#8) s.cpu.c) (s.readByte s.hl)) t
      { (s.cpu.putPair .hl (s.hl + step)).put .b (s.cpu.b - 1#8) with pc := pc } [] ∧
    (t.cpu.f.z = true ↔ s.cpu.b = 1#8)

/-- No interrupt is accepted at this point and the CPU is not halted, so the next step runs an instruction
(60_exceptions.md rule R503). -/
def RunsNext (s : State) : Prop :=
  s.cfg.wellFormed = true ∧ s.pins.nmiPending = false ∧ s.intAccepted = false ∧ s.cpu.halted = false

/-- The bytes that stand at the pc and after it. -/
def State.bytesAtPc (s : State) (n : Nat) : List Byte :=
  (List.range n).map fun k => s.readByte (s.cpu.pc + BitVec.ofNat 16 k)

/-- The twelve instructions of the input and output group (49_io.md). -/
def IsInputOutput (i : Instr) : Prop :=
  (∃ n, i = .inAN n) ∨ (∃ r, i = .inRC r) ∨ i = .ini ∨ i = .inir ∨ i = .ind ∨ i = .indr ∨
    (∃ n, i = .outNA n) ∨ (∃ r, i = .outCR r) ∨ i = .outi ∨ i = .otir ∨ i = .outd ∨ i = .otdr

/-- The instructions whose rule writes F by computation: the `Flags:` line of the rule is neither "none" nor, as for
`EX AF,AF'` and `POP AF`, a load of all eight bits (10_state.md rule R27). -/
def computesFlags (i : Instr) : Bool :=
  match i with
  | .ldAI | .ldARefresh | .ldi | .ldir | .ldd | .lddr | .cpi | .cpir | .cpd | .cpdr | .addAR _ | .addAN _
  | .addAHl | .addAIxd _ | .addAIyd _ | .adcAR _ | .adcAN _ | .adcAHl | .adcAIxd _ | .adcAIyd _ | .subR _
  | .subN _ | .subHl | .subIxd _ | .subIyd _ | .sbcAR _ | .sbcAN _ | .sbcAHl | .sbcAIxd _ | .sbcAIyd _ | .andR _
  | .andN _ | .andHl | .andIxd _ | .andIyd _ | .xorR _ | .xorN _ | .xorHl | .xorIxd _ | .xorIyd _ | .orR _
  | .orN _ | .orHl | .orIxd _ | .orIyd _ | .cpR _ | .cpN _ | .cpHl | .cpIxd _ | .cpIyd _ | .incR _ | .incHl
  | .incIxd _ | .incIyd _ | .decR _ | .decHl | .decIxd _ | .decIyd _ | .daa | .cpl | .neg | .ccf | .scf
  | .addHlSs _ | .adcHlSs _ | .sbcHlSs _ | .addIxPp _ | .addIyRr _ | .rlca | .rla | .rrca | .rra | .rlcR _
  | .rlcHl | .rlcIxd _ | .rlcIyd _ | .rrcR _ | .rrcHl | .rrcIxd _ | .rrcIyd _ | .rlR _ | .rlHl | .rlIxd _
  | .rlIyd _ | .rrR _ | .rrHl | .rrIxd _ | .rrIyd _ | .slaR _ | .slaHl | .slaIxd _ | .slaIyd _ | .sraR _
  | .sraHl | .sraIxd _ | .sraIyd _ | .srlR _ | .srlHl | .srlIxd _ | .srlIyd _ | .rld | .rrd | .bitBR _ _
  | .bitBHl _ | .bitBIxd _ _ | .bitBIyd _ _ | .inRC _ | .ini | .inir | .ind | .indr | .outi | .otir | .outd
  | .otdr => true
  | .ldRR _ _ | .ldRN _ _ | .ldRHl _ | .ldRIxd _ _ | .ldRIyd _ _ | .ldHlR _ | .ldIxdR _ _ | .ldIydR _ _
  | .ldHlN _ | .ldIxdN _ _ | .ldIydN _ _ | .ldABc | .ldADe | .ldANn _ | .ldBcA | .ldDeA | .ldNnA _ | .ldIA
  | .ldRefreshA | .ldDdNn _ _ | .ldIxNn _ | .ldIyNn _ | .ldHlMem _ | .ldDdMem _ _ | .ldIxMem _ | .ldIyMem _
  | .ldMemHl _ | .ldMemDd _ _ | .ldMemIx _ | .ldMemIy _ | .ldSpHl | .ldSpIx | .ldSpIy | .pushQq _ | .pushIx
  | .pushIy | .popQq _ | .popIx | .popIy | .exDeHl | .exAfAf | .exx | .exSpHl | .exSpIx | .exSpIy | .nop | .halt
  | .di | .ei | .im0 | .im1 | .im2 | .incSs _ | .decSs _ | .incIx | .decIx | .incIy | .decIy | .setBR _ _
  | .setBHl _ | .setBIxd _ _ | .setBIyd _ _ | .resBR _ _ | .resBHl _ | .resBIxd _ _ | .resBIyd _ _ | .jpNn _
  | .jpCcNn _ _ | .jrE _ | .jrCE _ | .jrNcE _ | .jrZE _ | .jrNzE _ | .jpHl | .jpIx | .jpIy | .djnzE _
  | .callNn _ | .callCcNn _ _ | .ret | .retCc _ | .reti | .retn | .rstP _ | .inAN _ | .outNA _ | .outCR _ => false

/-- `setSetting(cs)` is accepted with the encoding given: signature, the three bytes, the checksum over all four, the
dirty flag; nothing else changes (60_exceptions.md rule R557). -/
def SetsBootRecord (s : State) (cs : List Char) (sel unit slice : Byte) : Prop :=
  s.hostSetSetting cs =
    (true, { s with
      nvram := { s.nvram with
        record := {
          signature := s.cfg.nvSig
          selector  := sel
          unit      := unit
          slice     := slice
          checksum  := nvChecksum s.cfg.nvChecksum s.cfg.nvSig sel unit slice }
        dirty := true } })

/-- An ASCII letter of either case (60_exceptions.md rule R556). -/
def AsciiLetter (c : Char) : Prop := (0x41 ≤ c.toNat ∧ c.toNat ≤ 0x5A) ∨ (0x61 ≤ c.toNat ∧ c.toNat ≤ 0x7A)

/-- A disk unit keeps its record (10_state.md rule R42): the image has `total` sectors, and a unit that is not loaded has
no image and no slices. -/
def DiskUnit.Ok (u : DiskUnit) (sectorSize : Nat) : Prop :=
  u.image.length = u.total * sectorSize ∧ (u.loaded = false → u.total = 0 ∧ u.slices = 0)

/-- The invariant of the machine. -/
structure State.Inv (s : State) : Prop where
  /-- The configuration is well formed (00_scope.md rule R6). -/
  config : s.cfg.wellFormed = true
  /-- Memory keeps its canonical form. -/
  canonical : Memory.wf s.mem.bytes
  /-- Only physical addresses that exist are listed (10_state.md rule R37). -/
  inRange : ∀ x ∈ s.mem.bytes, x.1 < s.cfg.physSize
  /-- The bank map has one page per window (10_state.md rule R38). -/
  windows : s.mem.map.length = s.cfg.nWindows
  /-- Every mapped page exists (10_state.md rule R38). -/
  pages : ∀ p ∈ s.mem.map, p < s.cfg.nPhysPages
  /-- The sector buffer holds one sector (10_state.md rule R43). -/
  buffer : s.disk.dkBuf.length = s.cfg.sectorSize
  /-- The transfer index stands inside the sector (60_exceptions.md rules R535, R536). -/
  index : s.disk.dkIdx < s.cfg.sectorSize
  /-- An idle controller stands at index 0. -/
  idleIndex : s.disk.dkState = .idle → s.disk.dkIdx = 0
  /-- Every disk unit keeps its record. -/
  units : ∀ u, (s.disk.unitAt u).Ok s.cfg.sectorSize
  /-- A transfer is on a sector that exists (60_exceptions.md rule R534). -/
  transfer : s.disk.dkState ≠ .idle → s.disk.dkCurLba.toNat < (s.disk.unitAt s.disk.dkCurUnit).total
  /-- The checksum holds once a byte of the record has been written (60_exceptions.md rule R550). -/
  checksum : s.nvram.record = Nvram.init.record ∨ s.nvram.record.sealed s.cfg.nvChecksum = s.nvram.record
  /-- No guest action leaves the bridge's idle state (10_state.md rule R50). -/
  bridgeIdle : s.bridge = { state := .idle, name := [], buffer := [] }
  /-- IFF1 is set only while IFF2 is (10_state.md rule R31). -/
  enables : s.cpu.iff1 = true → s.cpu.iff2 = true
  /-- `ei_delay` stands only right after `EI` (10_state.md rule R34). -/
  delay : s.cpu.eiDelay = true → s.cpu.iff1 = true

end Sys2Proof.Machine
end

