-- ==== Sys2Proof/Certificates/Slice0/Obligations.lean ====
section
/-! DEFINITION. The statements about this machine, for the provers. The vocabulary is that of Sys2Proof/Safety.lean. -/

open Sys2Proof Sys2Proof.Machine

/-- A step that fetches runs exec of the decoded instruction, after clearing ei_delay and advancing R (60_exceptions.md R503, 30_encoding.md R101, 30_encoding.md R120, 10_state.md R34). -/
def Obligations.StepRunsTheDecodedInstruction : Prop :=
  ∀ (s : State) (i : Instr), RunsNext s → decodeBytes (s.bytesAtPc 4) = .instr i →
    step s = exec i (s.beginInstr i.rIncrement) ∧
      Becomes s (s.beginInstr i.rIncrement) { s.cpu with eiDelay := false, r := (s.beginInstr i.rIncrement).cpu.r } [] ∧
      (s.beginInstr i.rIncrement).cpu.r.toNat = s.cpu.r.toNat / 128 * 128 + (s.cpu.r.toNat + i.rIncrement) % 128 ∧
      stepTStates s = tStates i (s.beginInstr i.rIncrement)

/-- Words written out from the spec's examples decode to their instructions (30_encoding.md R124, 30_encoding.md R117, 40_load8.md R200, 43_arith8.md R263). -/
def Obligations.DecodedWords : Prop :=
  decodeTableWord 8 0x43 = some (.ldRR .b .e) ∧
    decodeTableWord 16 0x1EA5 = some (.ldRN .e 0xA5#8) ∧
    decodeTableWord 24 0xDD4600 = some (.ldRIxd .b 0x00#8) ∧
    decodeTableWord 32 0xDD213412 = some (.ldIxNn 0x1234#16) ∧
    decodeTableWord 16 0xEDB0 = some .ldir ∧
    decodeTableWord 16 0xC611 = some (.addAN 0x11#8) ∧
    decodeTableWord 8 0x27 = some .daa ∧
    decodeTableWord 16 0xED6A = some (.adcHlSs .hl) ∧
    decodeTableWord 32 0xFDCB8006 = some (.rlcIyd 0x80#8) ∧
    decodeTableWord 16 0xCB7E = some (.bitBHl 7#3) ∧
    decodeTableWord 24 0xCD0080 = some (.callNn 0x8000#16) ∧
    decodeTableWord 16 0xED78 = some (.inRC .a) ∧
    ((List.range 256).countP fun k => decode 0xCB#8 (BitVec.ofNat 8 k) 0#8 0#8 == .undef .cb) = 8 ∧
    ((List.range 256).countP fun k => decode 0xED#8 (BitVec.ofNat 8 k) 0#8 0#8 == .undef .ed) = 198 ∧
    ((List.range 256).countP fun k => decode 0xDD#8 (BitVec.ofNat 8 k) 0#8 0#8 == .undef .xy) = 216 ∧
    ((List.range 256).countP fun k => decode 0xDD#8 0xCB#8 0#8 (BitVec.ofNat 8 k) == .undef .xyCb) = 225

/-- Every instruction with every operand decodes from its own encoding, whatever bytes follow it (30_encoding.md R100, 30_encoding.md R101, 30_encoding.md R102, 30_encoding.md R124). -/
def Obligations.DecodeOfEncode : Prop :=
  ∀ (i : Instr) (rest : List Byte), decodeBytes (encode i ++ rest) = .instr i

/-- An instruction decoded from bytes encodes back to those bytes: each word has one meaning (30_encoding.md R100, 30_encoding.md R101, 30_encoding.md R117). -/
def Obligations.EncodeOfDecode : Prop :=
  ∀ (b0 b1 b2 b3 : Byte) (i : Instr), decode b0 b1 b2 b3 = .instr i → encode i = [b0, b1, b2, b3].take i.length

/-- An undefined encoding is a no-operation of its class's length, or a fault of the model, by UNDEF_POLICY (R118, R119). -/
def Obligations.UndefinedEncodings : Prop :=
  ∀ (s : State) (c : UndefClass), RunsNext s → decodeBytes (s.bytesAtPc 4) = .undef c →
    (s.cfg.undefPolicy = .nop →
      ∃ t, step s = .next t ∧
        Becomes s t
          { s.cpu with
            eiDelay := false
            r := t.cpu.r
            pc := s.cpu.pc + (match c with | .cb => 2#16 | .ed => 2#16 | .xy => 1#16 | .xyCb => 4#16) } [] ∧
        t.cpu.r.toNat = s.cpu.r.toNat / 128 * 128 +
          (s.cpu.r.toNat + (match c with | .cb => 2 | .ed => 2 | .xy => 1 | .xyCb => 2)) % 128 ∧
        stepTStates s = (match c with | .cb => 8 | .ed => 8 | .xy => 4 | .xyCb => 23)) ∧
    (s.cfg.undefPolicy = .fault → ∃ bytes, step s = .fault (.undefinedEncoding s.cpu.pc bytes))

/-- The 8-bit loads into a register put the source byte there and change nothing else (rules R200, R201, R202, R203, R204, R211, R212, R213). -/
def Obligations.Load8PutsSourceInRegister : Prop :=
  ∀ s : State,
    (∀ (r : Reg8) (r' : Reg8), LoadsReg (.ldRR r r') s r (s.reg r') 1 ∧
      Row (.ldRR r r') s [0b01#2 ++ r.code ++ r'.code] 1 4) ∧
    (∀ (r : Reg8) (n : Byte), LoadsReg (.ldRN r n) s r n 2 ∧
      Row (.ldRN r n) s [0b00#2 ++ r.code ++ 0b110#3, n] 1 7) ∧
    (∀ (r : Reg8), LoadsReg (.ldRHl r) s r (s.readByte s.hl) 1 ∧
      Row (.ldRHl r) s [0b01#2 ++ r.code ++ 0b110#3] 1 7) ∧
    (∀ (r : Reg8) (d : Byte), LoadsReg (.ldRIxd r d) s r (s.readByte (s.ixAddr d)) 3 ∧
      Row (.ldRIxd r d) s [0xDD#8, 0b01#2 ++ r.code ++ 0b110#3, d] 2 19) ∧
    (∀ (r : Reg8) (d : Byte), LoadsReg (.ldRIyd r d) s r (s.readByte (s.iyAddr d)) 3 ∧
      Row (.ldRIyd r d) s [0xFD#8, 0b01#2 ++ r.code ++ 0b110#3, d] 2 19) ∧
    (LoadsReg .ldABc s .a (s.readByte s.bc) 1 ∧
      Row .ldABc s [0x0A#8] 1 7) ∧
    (LoadsReg .ldADe s .a (s.readByte s.de) 1 ∧
      Row .ldADe s [0x1A#8] 1 7) ∧
    (∀ (nn : Word), LoadsReg (.ldANn nn) s .a (s.readByte nn) 3 ∧
      Row (.ldANn nn) s [0x3A#8, loByte nn, hiByte nn] 1 13)

/-- The 8-bit stores put one byte at their address, unless that is ROM, and change nothing else (rules R205, R206, R207, R208, R209, R210, R214, R215, R216). -/
def Obligations.Store8PutsOneByte : Prop :=
  ∀ s : State,
    (∀ (r : Reg8), Stores (.ldHlR r) s [(s.hl, s.reg r)] 1 ∧
      Row (.ldHlR r) s [0b01110#5 ++ r.code] 1 7) ∧
    (∀ (d : Byte) (r : Reg8), Stores (.ldIxdR d r) s [(s.ixAddr d, s.reg r)] 3 ∧
      Row (.ldIxdR d r) s [0xDD#8, 0b01110#5 ++ r.code, d] 2 19) ∧
    (∀ (d : Byte) (r : Reg8), Stores (.ldIydR d r) s [(s.iyAddr d, s.reg r)] 3 ∧
      Row (.ldIydR d r) s [0xFD#8, 0b01110#5 ++ r.code, d] 2 19) ∧
    (∀ (n : Byte), Stores (.ldHlN n) s [(s.hl, n)] 2 ∧
      Row (.ldHlN n) s [0x36#8, n] 1 10) ∧
    (∀ (d : Byte) (n : Byte), Stores (.ldIxdN d n) s [(s.ixAddr d, n)] 4 ∧
      Row (.ldIxdN d n) s [0xDD#8, 0x36#8, d, n] 2 19) ∧
    (∀ (d : Byte) (n : Byte), Stores (.ldIydN d n) s [(s.iyAddr d, n)] 4 ∧
      Row (.ldIydN d n) s [0xFD#8, 0x36#8, d, n] 2 19) ∧
    (Stores .ldBcA s [(s.bc, s.cpu.a)] 1 ∧
      Row .ldBcA s [0x02#8] 1 7) ∧
    (Stores .ldDeA s [(s.de, s.cpu.a)] 1 ∧
      Row .ldDeA s [0x12#8] 1 7) ∧
    (∀ (nn : Word), Stores (.ldNnA nn) s [(nn, s.cpu.a)] 3 ∧
      Row (.ldNnA nn) s [0x32#8, loByte nn, hiByte nn] 1 13)

/-- LD A,I and LD A,R copy the register to A with P/V = IFF2; LD I,A and LD R,A copy A whole (rules R217, R218, R219, R220). -/
def Obligations.InterruptAndRefreshRegisterLoads : Prop :=
  ∀ s : State,
    (∃ t, exec .ldAI s = .next t ∧ BecomesF s t { s.cpu with a := s.cpu.i, pc := s.cpu.pc + 2#16 } [] ∧
      t.cpu.f.Are (128 ≤ s.cpu.i.toNat) (s.cpu.i = 0#8) False (s.cpu.iff2 = true) False (s.cpu.f.c = true) ∧
      Row .ldAI s [0xED#8, 0x57#8] 2 9) ∧
    (∃ t, exec .ldARefresh s = .next t ∧ BecomesF s t { s.cpu with a := s.cpu.r, pc := s.cpu.pc + 2#16 } [] ∧
      t.cpu.f.Are (128 ≤ s.cpu.r.toNat) (s.cpu.r = 0#8) False (s.cpu.iff2 = true) False (s.cpu.f.c = true) ∧
      Row .ldARefresh s [0xED#8, 0x5F#8] 2 9) ∧
    (SetsCpu .ldIA s { s.cpu with i := s.cpu.a } 2 ∧
      Row .ldIA s [0xED#8, 0x47#8] 2 9) ∧
    (SetsCpu .ldRefreshA s { s.cpu with r := s.cpu.a } 2 ∧
      Row .ldRefreshA s [0xED#8, 0x4F#8] 2 9)

/-- The 16-bit loads into a register put the word there and change nothing else (rules R223, R224, R225, R226, R227, R228, R229, R234, R235, R236). -/
def Obligations.Load16PutsWordInRegister : Prop :=
  ∀ s : State,
    (∀ (dd : Pair) (nn : Word), SetsCpu (.ldDdNn dd nn) s (s.cpu.putPair dd nn) 3 ∧
      Row (.ldDdNn dd nn) s [0b00#2 ++ dd.code ++ 0b0001#4, loByte nn, hiByte nn] 1 10) ∧
    (∀ (nn : Word), SetsCpu (.ldIxNn nn) s { s.cpu with ix := nn } 4 ∧
      Row (.ldIxNn nn) s [0xDD#8, 0x21#8, loByte nn, hiByte nn] 2 14) ∧
    (∀ (nn : Word), SetsCpu (.ldIyNn nn) s { s.cpu with iy := nn } 4 ∧
      Row (.ldIyNn nn) s [0xFD#8, 0x21#8, loByte nn, hiByte nn] 2 14) ∧
    (∀ (nn : Word), SetsCpu (.ldHlMem nn) s (s.cpu.putPair .hl (mkWord (s.readByte (nn + 1#16)) (s.readByte nn))) 3 ∧
      Row (.ldHlMem nn) s [0x2A#8, loByte nn, hiByte nn] 1 16) ∧
    (∀ (dd : Pair) (nn : Word), SetsCpu (.ldDdMem dd nn) s (s.cpu.putPair dd (mkWord (s.readByte (nn + 1#16)) (s.readByte nn))) 4 ∧
      Row (.ldDdMem dd nn) s [0xED#8, 0b01#2 ++ dd.code ++ 0b1011#4, loByte nn, hiByte nn] 2 20) ∧
    (∀ (nn : Word), SetsCpu (.ldIxMem nn) s { s.cpu with ix := mkWord (s.readByte (nn + 1#16)) (s.readByte nn) } 4 ∧
      Row (.ldIxMem nn) s [0xDD#8, 0x2A#8, loByte nn, hiByte nn] 2 20) ∧
    (∀ (nn : Word), SetsCpu (.ldIyMem nn) s { s.cpu with iy := mkWord (s.readByte (nn + 1#16)) (s.readByte nn) } 4 ∧
      Row (.ldIyMem nn) s [0xFD#8, 0x2A#8, loByte nn, hiByte nn] 2 20) ∧
    (SetsCpu .ldSpHl s { s.cpu with sp := mkWord s.cpu.h s.cpu.l } 1 ∧
      Row .ldSpHl s [0xF9#8] 1 6) ∧
    (SetsCpu .ldSpIx s { s.cpu with sp := s.cpu.ix } 2 ∧
      Row .ldSpIx s [0xDD#8, 0xF9#8] 2 10) ∧
    (SetsCpu .ldSpIy s { s.cpu with sp := s.cpu.iy } 2 ∧
      Row .ldSpIy s [0xFD#8, 0xF9#8] 2 10)

/-- The 16-bit stores and the pushes put low byte low, high byte high, and change nothing else (rules R221, R230, R231, R232, R233, R237, R238, R239). -/
def Obligations.Store16AndPushPutLowByteLow : Prop :=
  ∀ s : State,
    (∀ (nn : Word), Stores (.ldMemHl nn) s [(nn, s.cpu.l), (nn + 1#16, s.cpu.h)] 3 ∧
      Row (.ldMemHl nn) s [0x22#8, loByte nn, hiByte nn] 1 16) ∧
    (∀ (nn : Word) (dd : Pair), Stores (.ldMemDd nn dd) s [(nn, loByte (s.pair dd)), (nn + 1#16, hiByte (s.pair dd))] 4 ∧
      Row (.ldMemDd nn dd) s [0xED#8, 0b01#2 ++ dd.code ++ 0b0011#4, loByte nn, hiByte nn] 2 20) ∧
    (∀ (nn : Word), Stores (.ldMemIx nn) s [(nn, loByte s.cpu.ix), (nn + 1#16, hiByte s.cpu.ix)] 4 ∧
      Row (.ldMemIx nn) s [0xDD#8, 0x22#8, loByte nn, hiByte nn] 2 20) ∧
    (∀ (nn : Word), Stores (.ldMemIy nn) s [(nn, loByte s.cpu.iy), (nn + 1#16, hiByte s.cpu.iy)] 4 ∧
      Row (.ldMemIy nn) s [0xFD#8, 0x22#8, loByte nn, hiByte nn] 2 20) ∧
    (∀ (qq : PairQ), ∃ t, exec (.pushQq qq) s = .next t ∧ Becomes s t { s.cpu with sp := s.cpu.sp - 2#16, pc := s.cpu.pc + 1#16 }
      [(s.cpu.sp - 1#16, hiByte (s.pairQ qq)), (s.cpu.sp - 2#16, loByte (s.pairQ qq))] ∧
      Row (.pushQq qq) s [0b11#2 ++ qq.code ++ 0b0101#4] 1 11) ∧
    (∃ t, exec .pushIx s = .next t ∧ Becomes s t { s.cpu with sp := s.cpu.sp - 2#16, pc := s.cpu.pc + 2#16 }
      [(s.cpu.sp - 1#16, hiByte s.cpu.ix), (s.cpu.sp - 2#16, loByte s.cpu.ix)] ∧
      Row .pushIx s [0xDD#8, 0xE5#8] 2 15) ∧
    (∃ t, exec .pushIy s = .next t ∧ Becomes s t { s.cpu with sp := s.cpu.sp - 2#16, pc := s.cpu.pc + 2#16 }
      [(s.cpu.sp - 1#16, hiByte s.cpu.iy), (s.cpu.sp - 2#16, loByte s.cpu.iy)] ∧
      Row .pushIy s [0xFD#8, 0xE5#8] 2 15)

/-- POP takes the word at SP into its register; POP AF takes all eight flag bits (rules R222, R240, R241, R242). -/
def Obligations.PopTakesWordAtStackPointer : Prop :=
  ∀ s : State,
    (∃ t, exec (.popQq .bc) s = .next t ∧
      Becomes s t { s.cpu.putPair .bc (mkWord (s.readByte (s.cpu.sp + 1#16)) (s.readByte s.cpu.sp)) with sp := s.cpu.sp + 2#16, pc := s.cpu.pc + 1#16 } []) ∧
    (∃ t, exec (.popQq .de) s = .next t ∧
      Becomes s t { s.cpu.putPair .de (mkWord (s.readByte (s.cpu.sp + 1#16)) (s.readByte s.cpu.sp)) with sp := s.cpu.sp + 2#16, pc := s.cpu.pc + 1#16 } []) ∧
    (∃ t, exec (.popQq .hl) s = .next t ∧
      Becomes s t { s.cpu.putPair .hl (mkWord (s.readByte (s.cpu.sp + 1#16)) (s.readByte s.cpu.sp)) with sp := s.cpu.sp + 2#16, pc := s.cpu.pc + 1#16 } []) ∧
    (∃ t, exec (.popQq .af) s = .next t ∧
      BecomesF s t
        { s.cpu with a := s.readByte (s.cpu.sp + 1#16), sp := s.cpu.sp + 2#16, pc := s.cpu.pc + 1#16 } [] ∧
      t.cpu.f.toByte = s.readByte s.cpu.sp) ∧
    (∀ (qq : PairQ), Row (.popQq qq) s [0b11#2 ++ qq.code ++ 0b0001#4] 1 10) ∧
    (∃ t, exec .popIx s = .next t ∧ Becomes s t
      { s.cpu with ix := mkWord (s.readByte (s.cpu.sp + 1#16)) (s.readByte s.cpu.sp), sp := s.cpu.sp + 2#16, pc := s.cpu.pc + 2#16 } [] ∧
      Row .popIx s [0xDD#8, 0xE1#8] 2 14) ∧
    (∃ t, exec .popIy s = .next t ∧ Becomes s t
      { s.cpu with iy := mkWord (s.readByte (s.cpu.sp + 1#16)) (s.readByte s.cpu.sp), sp := s.cpu.sp + 2#16, pc := s.cpu.pc + 2#16 } [] ∧
      Row .popIy s [0xFD#8, 0xE1#8] 2 14)

/-- The exchanges swap the named registers, or a register with the word at the top of the stack (rules R243, R244, R245, R246, R247, R248). -/
def Obligations.ExchangesSwapRegisters : Prop :=
  ∀ s : State,
    (SetsCpu .exDeHl s { s.cpu with d := s.cpu.h, e := s.cpu.l, h := s.cpu.d, l := s.cpu.e } 1 ∧
      Row .exDeHl s [0xEB#8] 1 4) ∧
    (SetsCpu .exAfAf s { s.cpu with a := s.cpu.shA, f := s.cpu.shF, shA := s.cpu.a, shF := s.cpu.f } 1 ∧
      Row .exAfAf s [0x08#8] 1 4) ∧
    (SetsCpu .exx s
      { s.cpu with
        b := s.cpu.shB, c := s.cpu.shC, d := s.cpu.shD, e := s.cpu.shE, h := s.cpu.shH, l := s.cpu.shL
        shB := s.cpu.b, shC := s.cpu.c, shD := s.cpu.d, shE := s.cpu.e, shH := s.cpu.h, shL := s.cpu.l } 1 ∧
      Row .exx s [0xD9#8] 1 4) ∧
    (∃ t, exec .exSpHl s = .next t ∧ Becomes s t
      { s.cpu with h := s.readByte (s.cpu.sp + 1#16), l := s.readByte s.cpu.sp, pc := s.cpu.pc + 1#16 }
      [(s.cpu.sp + 1#16, s.cpu.h), (s.cpu.sp, s.cpu.l)] ∧
      Row .exSpHl s [0xE3#8] 1 19) ∧
    (∃ t, exec .exSpIx s = .next t ∧ Becomes s t
      { s.cpu with ix := mkWord (s.readByte (s.cpu.sp + 1#16)) (s.readByte s.cpu.sp), pc := s.cpu.pc + 2#16 }
      [(s.cpu.sp + 1#16, hiByte s.cpu.ix), (s.cpu.sp, loByte s.cpu.ix)] ∧
      Row .exSpIx s [0xDD#8, 0xE3#8] 2 23) ∧
    (∃ t, exec .exSpIy s = .next t ∧ Becomes s t
      { s.cpu with iy := mkWord (s.readByte (s.cpu.sp + 1#16)) (s.readByte s.cpu.sp), pc := s.cpu.pc + 2#16 }
      [(s.cpu.sp + 1#16, hiByte s.cpu.iy), (s.cpu.sp, loByte s.cpu.iy)] ∧
      Row .exSpIy s [0xFD#8, 0xE3#8] 2 23)

/-- The block transfers move one byte per execution and repeat until BC is 0 (rules R249, R250, R251, R252). -/
def Obligations.BlockTransferMovesOneByte : Prop :=
  ∀ s : State,
    (MovesByte .ldi s 1#16 (s.cpu.pc + 2#16) ∧
      Row .ldi s [0xED#8, 0xA0#8] 2 16) ∧
    (MovesByte .ldir s 1#16 (if s.bc = 1#16 then s.cpu.pc + 2#16 else s.cpu.pc) ∧
      Row .ldir s [0xED#8, 0xB0#8] 2 (if s.bc = 1#16 then 16 else 21)) ∧
    (MovesByte .ldd s 0xFFFF#16 (s.cpu.pc + 2#16) ∧
      Row .ldd s [0xED#8, 0xA8#8] 2 16) ∧
    (MovesByte .lddr s 0xFFFF#16 (if s.bc = 1#16 then s.cpu.pc + 2#16 else s.cpu.pc) ∧
      Row .lddr s [0xED#8, 0xB8#8] 2 (if s.bc = 1#16 then 16 else 21))

/-- The block searches compare A with one byte per execution and repeat until it is found or BC is 0 (rules R253, R254, R255, R256). -/
def Obligations.BlockSearchComparesOneByte : Prop :=
  ∀ s : State,
    (SearchesByte .cpi s 1#16 (s.cpu.pc + 2#16) ∧
      Row .cpi s [0xED#8, 0xA1#8] 2 16) ∧
    (SearchesByte .cpir s 1#16
      (if s.bc = 1#16 ∨ s.cpu.a = s.readByte s.hl then s.cpu.pc + 2#16 else s.cpu.pc) ∧
      Row .cpir s [0xED#8, 0xB1#8] 2 (if s.bc = 1#16 ∨ s.cpu.a = s.readByte s.hl then 16 else 21)) ∧
    (SearchesByte .cpd s 0xFFFF#16 (s.cpu.pc + 2#16) ∧
      Row .cpd s [0xED#8, 0xA9#8] 2 16) ∧
    (SearchesByte .cpdr s 0xFFFF#16
      (if s.bc = 1#16 ∨ s.cpu.a = s.readByte s.hl then s.cpu.pc + 2#16 else s.cpu.pc) ∧
      Row .cpdr s [0xED#8, 0xB9#8] 2 (if s.bc = 1#16 ∨ s.cpu.a = s.readByte s.hl then 16 else 21))

/-- ADD and ADC put the sum modulo 256 in A, with the flags of the exact sum (rules R258, R262, R263, R264, R265, R266, R267, R268, R269, R270, R271). -/
def Obligations.AddAdcByIntegerLaw : Prop :=
  ∀ s : State,
    (∀ (r : Reg8), AddsToA (.addAR r) s (s.reg r) false 1 ∧
      Row (.addAR r) s [0b10000#5 ++ r.code] 1 4) ∧
    (∀ (n : Byte), AddsToA (.addAN n) s n false 2 ∧
      Row (.addAN n) s [0xC6#8, n] 1 7) ∧
    (AddsToA .addAHl s (s.readByte s.hl) false 1 ∧
      Row .addAHl s [0x86#8] 1 7) ∧
    (∀ (d : Byte), AddsToA (.addAIxd d) s (s.readByte (s.ixAddr d)) false 3 ∧
      Row (.addAIxd d) s [0xDD#8, 0x86#8, d] 2 19) ∧
    (∀ (d : Byte), AddsToA (.addAIyd d) s (s.readByte (s.iyAddr d)) false 3 ∧
      Row (.addAIyd d) s [0xFD#8, 0x86#8, d] 2 19) ∧
    (∀ (r : Reg8), AddsToA (.adcAR r) s (s.reg r) s.cpu.f.c 1 ∧
      Row (.adcAR r) s [0b10001#5 ++ r.code] 1 4) ∧
    (∀ (n : Byte), AddsToA (.adcAN n) s n s.cpu.f.c 2 ∧
      Row (.adcAN n) s [0xCE#8, n] 1 7) ∧
    (AddsToA .adcAHl s (s.readByte s.hl) s.cpu.f.c 1 ∧
      Row .adcAHl s [0x8E#8] 1 7) ∧
    (∀ (d : Byte), AddsToA (.adcAIxd d) s (s.readByte (s.ixAddr d)) s.cpu.f.c 3 ∧
      Row (.adcAIxd d) s [0xDD#8, 0x8E#8, d] 2 19) ∧
    (∀ (d : Byte), AddsToA (.adcAIyd d) s (s.readByte (s.iyAddr d)) s.cpu.f.c 3 ∧
      Row (.adcAIyd d) s [0xFD#8, 0x8E#8, d] 2 19)

/-- SUB and SBC put the difference modulo 256 in A, with the flags of the exact difference (rules R259, R272, R273, R274, R275, R276, R277, R278, R279, R280, R281). -/
def Obligations.SubSbcByIntegerLaw : Prop :=
  ∀ s : State,
    (∀ (r : Reg8), SubsFromA (.subR r) s (s.reg r) false 1 ∧
      Row (.subR r) s [0b10010#5 ++ r.code] 1 4) ∧
    (∀ (n : Byte), SubsFromA (.subN n) s n false 2 ∧
      Row (.subN n) s [0xD6#8, n] 1 7) ∧
    (SubsFromA .subHl s (s.readByte s.hl) false 1 ∧
      Row .subHl s [0x96#8] 1 7) ∧
    (∀ (d : Byte), SubsFromA (.subIxd d) s (s.readByte (s.ixAddr d)) false 3 ∧
      Row (.subIxd d) s [0xDD#8, 0x96#8, d] 2 19) ∧
    (∀ (d : Byte), SubsFromA (.subIyd d) s (s.readByte (s.iyAddr d)) false 3 ∧
      Row (.subIyd d) s [0xFD#8, 0x96#8, d] 2 19) ∧
    (∀ (r : Reg8), SubsFromA (.sbcAR r) s (s.reg r) s.cpu.f.c 1 ∧
      Row (.sbcAR r) s [0b10011#5 ++ r.code] 1 4) ∧
    (∀ (n : Byte), SubsFromA (.sbcAN n) s n s.cpu.f.c 2 ∧
      Row (.sbcAN n) s [0xDE#8, n] 1 7) ∧
    (SubsFromA .sbcAHl s (s.readByte s.hl) s.cpu.f.c 1 ∧
      Row .sbcAHl s [0x9E#8] 1 7) ∧
    (∀ (d : Byte), SubsFromA (.sbcAIxd d) s (s.readByte (s.ixAddr d)) s.cpu.f.c 3 ∧
      Row (.sbcAIxd d) s [0xDD#8, 0x9E#8, d] 2 19) ∧
    (∀ (d : Byte), SubsFromA (.sbcAIyd d) s (s.readByte (s.iyAddr d)) s.cpu.f.c 3 ∧
      Row (.sbcAIyd d) s [0xFD#8, 0x9E#8, d] 2 19)

/-- AND and XOR combine A with the operand bit by bit, with the logic flags (rules R257, R282, R283, R284, R285, R286, R287, R288, R289, R290, R291). -/
def Obligations.AndXorBitwise : Prop :=
  ∀ s : State,
    (∀ (r : Reg8), LogicOnA (.andR r) s (s.reg r) and True 1 ∧
      Row (.andR r) s [0b10100#5 ++ r.code] 1 4) ∧
    (∀ (n : Byte), LogicOnA (.andN n) s n and True 2 ∧
      Row (.andN n) s [0xE6#8, n] 1 7) ∧
    (LogicOnA .andHl s (s.readByte s.hl) and True 1 ∧
      Row .andHl s [0xA6#8] 1 7) ∧
    (∀ (d : Byte), LogicOnA (.andIxd d) s (s.readByte (s.ixAddr d)) and True 3 ∧
      Row (.andIxd d) s [0xDD#8, 0xA6#8, d] 2 19) ∧
    (∀ (d : Byte), LogicOnA (.andIyd d) s (s.readByte (s.iyAddr d)) and True 3 ∧
      Row (.andIyd d) s [0xFD#8, 0xA6#8, d] 2 19) ∧
    (∀ (r : Reg8), LogicOnA (.xorR r) s (s.reg r) xor False 1 ∧
      Row (.xorR r) s [0b10101#5 ++ r.code] 1 4) ∧
    (∀ (n : Byte), LogicOnA (.xorN n) s n xor False 2 ∧
      Row (.xorN n) s [0xEE#8, n] 1 7) ∧
    (LogicOnA .xorHl s (s.readByte s.hl) xor False 1 ∧
      Row .xorHl s [0xAE#8] 1 7) ∧
    (∀ (d : Byte), LogicOnA (.xorIxd d) s (s.readByte (s.ixAddr d)) xor False 3 ∧
      Row (.xorIxd d) s [0xDD#8, 0xAE#8, d] 2 19) ∧
    (∀ (d : Byte), LogicOnA (.xorIyd d) s (s.readByte (s.iyAddr d)) xor False 3 ∧
      Row (.xorIyd d) s [0xFD#8, 0xAE#8, d] 2 19)

/-- OR combines A with the operand bit by bit; CP sets the flags of the subtraction and keeps A (rules R292, R293, R294, R295, R296, R297, R298, R299, R300, R301). -/
def Obligations.OrBitwiseCpOnlyCompares : Prop :=
  ∀ s : State,
    (∀ (r : Reg8), LogicOnA (.orR r) s (s.reg r) or False 1 ∧
      Row (.orR r) s [0b10110#5 ++ r.code] 1 4) ∧
    (∀ (n : Byte), LogicOnA (.orN n) s n or False 2 ∧
      Row (.orN n) s [0xF6#8, n] 1 7) ∧
    (LogicOnA .orHl s (s.readByte s.hl) or False 1 ∧
      Row .orHl s [0xB6#8] 1 7) ∧
    (∀ (d : Byte), LogicOnA (.orIxd d) s (s.readByte (s.ixAddr d)) or False 3 ∧
      Row (.orIxd d) s [0xDD#8, 0xB6#8, d] 2 19) ∧
    (∀ (d : Byte), LogicOnA (.orIyd d) s (s.readByte (s.iyAddr d)) or False 3 ∧
      Row (.orIyd d) s [0xFD#8, 0xB6#8, d] 2 19) ∧
    (∀ (r : Reg8), ComparesA (.cpR r) s (s.reg r) 1 ∧
      Row (.cpR r) s [0b10111#5 ++ r.code] 1 4) ∧
    (∀ (n : Byte), ComparesA (.cpN n) s n 2 ∧
      Row (.cpN n) s [0xFE#8, n] 1 7) ∧
    (ComparesA .cpHl s (s.readByte s.hl) 1 ∧
      Row .cpHl s [0xBE#8] 1 7) ∧
    (∀ (d : Byte), ComparesA (.cpIxd d) s (s.readByte (s.ixAddr d)) 3 ∧
      Row (.cpIxd d) s [0xDD#8, 0xBE#8, d] 2 19) ∧
    (∀ (d : Byte), ComparesA (.cpIyd d) s (s.readByte (s.iyAddr d)) 3 ∧
      Row (.cpIyd d) s [0xFD#8, 0xBE#8, d] 2 19)

/-- INC and DEC of 8 bits change a register or a byte by one, with their flags, and keep C (rules R261, R302, R303, R304, R305, R306, R307, R308, R309). -/
def Obligations.IncDec8KeepCarry : Prop :=
  ∀ s : State,
    (∀ (r : Reg8), ChangesReg (.incR r) s r 1 (fun f res => IncOf f (s.reg r) res s.cpu.f.c) ∧
      Row (.incR r) s [0b00#2 ++ r.code ++ 0b100#3] 1 4) ∧
    (ChangesMem .incHl s s.hl 1 (fun f res => IncOf f (s.readByte s.hl) res s.cpu.f.c) ∧
      Row .incHl s [0x34#8] 1 11) ∧
    (∀ (d : Byte), ChangesMem (.incIxd d) s (s.ixAddr d) 3 (fun f res => IncOf f (s.readByte (s.ixAddr d)) res s.cpu.f.c) ∧
      Row (.incIxd d) s [0xDD#8, 0x34#8, d] 2 23) ∧
    (∀ (d : Byte), ChangesMem (.incIyd d) s (s.iyAddr d) 3 (fun f res => IncOf f (s.readByte (s.iyAddr d)) res s.cpu.f.c) ∧
      Row (.incIyd d) s [0xFD#8, 0x34#8, d] 2 23) ∧
    (∀ (r : Reg8), ChangesReg (.decR r) s r 1 (fun f res => DecOf f (s.reg r) res s.cpu.f.c) ∧
      Row (.decR r) s [0b00#2 ++ r.code ++ 0b101#3] 1 4) ∧
    (ChangesMem .decHl s s.hl 1 (fun f res => DecOf f (s.readByte s.hl) res s.cpu.f.c) ∧
      Row .decHl s [0x35#8] 1 11) ∧
    (∀ (d : Byte), ChangesMem (.decIxd d) s (s.ixAddr d) 3 (fun f res => DecOf f (s.readByte (s.ixAddr d)) res s.cpu.f.c) ∧
      Row (.decIxd d) s [0xDD#8, 0x35#8, d] 2 23) ∧
    (∀ (d : Byte), ChangesMem (.decIyd d) s (s.iyAddr d) 3 (fun f res => DecOf f (s.readByte (s.iyAddr d)) res s.cpu.f.c) ∧
      Row (.decIyd d) s [0xFD#8, 0x35#8, d] 2 23)

/-- DAA adjusts A for packed BCD by the flags H, N, C (rules R310). -/
def Obligations.DecimalAdjustCorrectsDigits : Prop :=
  ∀ s : State,
    (∃ t, exec .daa s = .next t ∧ BecomesF s t { s.cpu with a := t.cpu.a, pc := s.cpu.pc + 1#16 } [] ∧
      ((t.cpu.a.toNat : Int) =
        if s.cpu.f.n = true then
          ((s.cpu.a.toNat : Int) - (if s.cpu.f.h = true ∨ 9 < s.cpu.a.toNat % 16 then 6 else 0) -
            (if s.cpu.f.c = true ∨ 153 < s.cpu.a.toNat then 96 else 0)) % 256
        else
          ((s.cpu.a.toNat : Int) + (if s.cpu.f.h = true ∨ 9 < s.cpu.a.toNat % 16 then 6 else 0) +
            (if s.cpu.f.c = true ∨ 153 < s.cpu.a.toNat then 96 else 0)) % 256) ∧
      t.cpu.f.Are (128 ≤ t.cpu.a.toNat) (t.cpu.a.toNat = 0) (s.cpu.a.toNat / 16 % 2 ≠ t.cpu.a.toNat / 16 % 2)
        (EvenOnes t.cpu.a) (s.cpu.f.n = true) (s.cpu.f.c = true ∨ 153 < s.cpu.a.toNat) ∧
      Row .daa s [0x27#8] 1 4)

/-- CPL, NEG, CCF and SCF do what their rules say to A and the flags (rules R311, R312, R313, R314). -/
def Obligations.ComplementNegateAndCarryFlag : Prop :=
  ∀ s : State,
    (∃ t, exec .cpl s = .next t ∧ BecomesF s t { s.cpu with a := t.cpu.a, pc := s.cpu.pc + 1#16 } [] ∧ t.cpu.a.toNat = 255 - s.cpu.a.toNat ∧
      t.cpu.f.Are (s.cpu.f.s = true) (s.cpu.f.z = true) True (s.cpu.f.pv = true) True (s.cpu.f.c = true) ∧
      Row .cpl s [0x2F#8] 1 4) ∧
    (∃ t, exec .neg s = .next t ∧ BecomesF s t { s.cpu with a := t.cpu.a, pc := s.cpu.pc + 2#16 } [] ∧ t.cpu.a.toNat = (256 - s.cpu.a.toNat) % 256 ∧
      t.cpu.f.Are (128 ≤ t.cpu.a.toNat) (t.cpu.a.toNat = 0) (s.cpu.a.toNat % 16 ≠ 0) (s.cpu.a = 0x80#8) True
        (s.cpu.a ≠ 0x00#8) ∧
      Row .neg s [0xED#8, 0x44#8] 2 8) ∧
    (∃ t, exec .ccf s = .next t ∧ BecomesF s t { s.cpu with pc := s.cpu.pc + 1#16 } [] ∧
      t.cpu.f.Are (s.cpu.f.s = true) (s.cpu.f.z = true) (s.cpu.f.c = true) (s.cpu.f.pv = true) False (s.cpu.f.c = false) ∧
      Row .ccf s [0x3F#8] 1 4) ∧
    (∃ t, exec .scf s = .next t ∧ BecomesF s t { s.cpu with pc := s.cpu.pc + 1#16 } [] ∧
      t.cpu.f.Are (s.cpu.f.s = true) (s.cpu.f.z = true) False (s.cpu.f.pv = true) False True ∧
      Row .scf s [0x37#8] 1 4)

/-- NOP, HALT, DI, EI, IM 0, IM 1, IM 2 change only the control register each names (rules R315, R316, R317, R318, R319, R320, R321). -/
def Obligations.CpuControlSetsItsLatches : Prop :=
  ∀ s : State,
    (SetsCpu .nop s s.cpu 1 ∧
      Row .nop s [0x00#8] 1 4) ∧
    (SetsCpu .halt s { s.cpu with halted := true } 1 ∧
      Row .halt s [0x76#8] 1 4) ∧
    (SetsCpu .di s { s.cpu with iff1 := false, iff2 := false } 1 ∧
      Row .di s [0xF3#8] 1 4) ∧
    (SetsCpu .ei s { s.cpu with iff1 := true, iff2 := true, eiDelay := true } 1 ∧
      Row .ei s [0xFB#8] 1 4) ∧
    (SetsCpu .im0 s { s.cpu with im := .im0 } 2 ∧
      Row .im0 s [0xED#8, 0x46#8] 2 8) ∧
    (SetsCpu .im1 s { s.cpu with im := .im1 } 2 ∧
      Row .im1 s [0xED#8, 0x56#8] 2 8) ∧
    (SetsCpu .im2 s { s.cpu with im := .im2 } 2 ∧
      Row .im2 s [0xED#8, 0x5E#8] 2 8)

/-- The 16-bit ADD puts the sum modulo 65536 in HL, IX or IY and sets H, N, C only (rules R322, R324, R327, R328). -/
def Obligations.Add16KeepsSignZeroParity : Prop :=
  ∀ s : State,
    (∀ (ss : Pair), ∃ t, exec (.addHlSs ss) s = .next t ∧ BecomesF s t { s.cpu with h := t.cpu.h, l := t.cpu.l, pc := s.cpu.pc + 1#16 } [] ∧
      t.hl.toNat = (s.hl.toNat + (s.pair ss).toNat) % 65536 ∧ Add16Flags s.cpu.f t.cpu.f s.hl (s.pair ss) ∧
      Row (.addHlSs ss) s [0b00#2 ++ ss.code ++ 0b1001#4] 1 11) ∧
    (∀ (pp : PairX), ∃ t, exec (.addIxPp pp) s = .next t ∧ BecomesF s t { s.cpu with ix := t.cpu.ix, pc := s.cpu.pc + 2#16 } [] ∧
      t.cpu.ix.toNat = (s.cpu.ix.toNat + (s.pairX s.cpu.ix pp).toNat) % 65536 ∧
      Add16Flags s.cpu.f t.cpu.f s.cpu.ix (s.pairX s.cpu.ix pp) ∧
      Row (.addIxPp pp) s [0xDD#8, 0b00#2 ++ pp.code ++ 0b1001#4] 2 15) ∧
    (∀ (rr : PairX), ∃ t, exec (.addIyRr rr) s = .next t ∧ BecomesF s t { s.cpu with iy := t.cpu.iy, pc := s.cpu.pc + 2#16 } [] ∧
      t.cpu.iy.toNat = (s.cpu.iy.toNat + (s.pairX s.cpu.iy rr).toNat) % 65536 ∧
      Add16Flags s.cpu.f t.cpu.f s.cpu.iy (s.pairX s.cpu.iy rr) ∧
      Row (.addIyRr rr) s [0xFD#8, 0b00#2 ++ rr.code ++ 0b1001#4] 2 15)

/-- ADC HL and SBC HL put sum and difference with carry in HL, with all six flags (rules R323, R325, R326). -/
def Obligations.AdcSbc16ByIntegerLaw : Prop :=
  ∀ s : State,
    (∀ (ss : Pair), ∃ t, exec (.adcHlSs ss) s = .next t ∧ BecomesF s t { s.cpu with h := t.cpu.h, l := t.cpu.l, pc := s.cpu.pc + 2#16 } [] ∧
      t.hl.toNat = (s.hl.toNat + (s.pair ss).toNat + s.cpu.f.c.toNat) % 65536 ∧
      t.cpu.f.Are (32768 ≤ t.hl.toNat) (t.hl.toNat = 0)
        (4095 < s.hl.toNat % 4096 + (s.pair ss).toNat % 4096 + s.cpu.f.c.toNat)
        (s.hl.toInt + (s.pair ss).toInt + s.cpu.f.c.toNat < -32768 ∨
          32767 < s.hl.toInt + (s.pair ss).toInt + s.cpu.f.c.toNat)
        False (65535 < s.hl.toNat + (s.pair ss).toNat + s.cpu.f.c.toNat) ∧
      Row (.adcHlSs ss) s [0xED#8, 0b01#2 ++ ss.code ++ 0b1010#4] 2 15) ∧
    (∀ (ss : Pair), ∃ t, exec (.sbcHlSs ss) s = .next t ∧ BecomesF s t { s.cpu with h := t.cpu.h, l := t.cpu.l, pc := s.cpu.pc + 2#16 } [] ∧
      (t.hl.toNat : Int) = ((s.hl.toNat : Int) - (s.pair ss).toNat - s.cpu.f.c.toNat) % 65536 ∧
      t.cpu.f.Are (32768 ≤ t.hl.toNat) (t.hl.toNat = 0)
        (s.hl.toNat % 4096 < (s.pair ss).toNat % 4096 + s.cpu.f.c.toNat)
        (s.hl.toInt - (s.pair ss).toInt - s.cpu.f.c.toNat < -32768 ∨
          32767 < s.hl.toInt - (s.pair ss).toInt - s.cpu.f.c.toNat)
        True (s.hl.toNat < (s.pair ss).toNat + s.cpu.f.c.toNat) ∧
      Row (.sbcHlSs ss) s [0xED#8, 0b01#2 ++ ss.code ++ 0b0010#4] 2 15)

/-- The 16-bit INC and DEC change the register by one modulo 65536 and no flag (rules R329, R330, R331, R332, R333, R334). -/
def Obligations.IncDec16WriteNoFlag : Prop :=
  ∀ s : State,
    (∀ (ss : Pair), SetsCpu (.incSs ss) s (s.cpu.putPair ss (BitVec.ofNat 16 ((s.pair ss).toNat + 1))) 1 ∧
      Row (.incSs ss) s [0b00#2 ++ ss.code ++ 0b0011#4] 1 6) ∧
    (∀ (ss : Pair), SetsCpu (.decSs ss) s (s.cpu.putPair ss (BitVec.ofNat 16 ((s.pair ss).toNat + 65535))) 1 ∧
      Row (.decSs ss) s [0b00#2 ++ ss.code ++ 0b1011#4] 1 6) ∧
    (SetsCpu .incIx s { s.cpu with ix := BitVec.ofNat 16 (s.cpu.ix.toNat + 1) } 2 ∧
      Row .incIx s [0xDD#8, 0x23#8] 2 10) ∧
    (SetsCpu .decIx s { s.cpu with ix := BitVec.ofNat 16 (s.cpu.ix.toNat + 65535) } 2 ∧
      Row .decIx s [0xDD#8, 0x2B#8] 2 10) ∧
    (SetsCpu .incIy s { s.cpu with iy := BitVec.ofNat 16 (s.cpu.iy.toNat + 1) } 2 ∧
      Row .incIy s [0xFD#8, 0x23#8] 2 10) ∧
    (SetsCpu .decIy s { s.cpu with iy := BitVec.ofNat 16 (s.cpu.iy.toNat + 65535) } 2 ∧
      Row .decIy s [0xFD#8, 0x2B#8] 2 10)

/-- RLCA, RLA, RRCA, RRA rotate A by one bit, set C, clear H and N, and keep S, Z, P/V (rules R336, R337, R338, R339). -/
def Obligations.RotateAccumulatorKeepsSignZeroParity : Prop :=
  ∀ s : State,
    (RotatesA .rlca s .rlc ∧
      Row .rlca s [0x07#8] 1 4) ∧
    (RotatesA .rla s .rl ∧
      Row .rla s [0x17#8] 1 4) ∧
    (RotatesA .rrca s .rrc ∧
      Row .rrca s [0x0F#8] 1 4) ∧
    (RotatesA .rra s .rr ∧
      Row .rra s [0x1F#8] 1 4)

/-- The seven rotates and shifts of a register give each bit its source, with their flags (rules R335, R340, R344, R348, R352, R356, R360, R364). -/
def Obligations.ShiftRegisterMovesBits : Prop :=
  ∀ s : State,
    (∀ (r : Reg8), ChangesReg (.rlcR r) s r 2 (fun f res => ShiftOf .rlc f (s.reg r) res s.cpu.f.c) ∧
      Row (.rlcR r) s [0xCB#8, 0b00000#5 ++ r.code] 2 8) ∧
    (∀ (r : Reg8), ChangesReg (.rrcR r) s r 2 (fun f res => ShiftOf .rrc f (s.reg r) res s.cpu.f.c) ∧
      Row (.rrcR r) s [0xCB#8, 0b00001#5 ++ r.code] 2 8) ∧
    (∀ (r : Reg8), ChangesReg (.rlR r) s r 2 (fun f res => ShiftOf .rl f (s.reg r) res s.cpu.f.c) ∧
      Row (.rlR r) s [0xCB#8, 0b00010#5 ++ r.code] 2 8) ∧
    (∀ (r : Reg8), ChangesReg (.rrR r) s r 2 (fun f res => ShiftOf .rr f (s.reg r) res s.cpu.f.c) ∧
      Row (.rrR r) s [0xCB#8, 0b00011#5 ++ r.code] 2 8) ∧
    (∀ (r : Reg8), ChangesReg (.slaR r) s r 2 (fun f res => ShiftOf .sla f (s.reg r) res s.cpu.f.c) ∧
      Row (.slaR r) s [0xCB#8, 0b00100#5 ++ r.code] 2 8) ∧
    (∀ (r : Reg8), ChangesReg (.sraR r) s r 2 (fun f res => ShiftOf .sra f (s.reg r) res s.cpu.f.c) ∧
      Row (.sraR r) s [0xCB#8, 0b00101#5 ++ r.code] 2 8) ∧
    (∀ (r : Reg8), ChangesReg (.srlR r) s r 2 (fun f res => ShiftOf .srl f (s.reg r) res s.cpu.f.c) ∧
      Row (.srlR r) s [0xCB#8, 0b00111#5 ++ r.code] 2 8)

/-- The seven rotates and shifts of the byte at HL give each bit its source, with their flags (rules R341, R345, R349, R353, R357, R361, R365). -/
def Obligations.ShiftHlMovesBits : Prop :=
  ∀ s : State,
    (ChangesMem .rlcHl s s.hl 2 (fun f res => ShiftOf .rlc f (s.readByte s.hl) res s.cpu.f.c) ∧
      Row .rlcHl s [0xCB#8, 0x06#8] 2 15) ∧
    (ChangesMem .rrcHl s s.hl 2 (fun f res => ShiftOf .rrc f (s.readByte s.hl) res s.cpu.f.c) ∧
      Row .rrcHl s [0xCB#8, 0x0E#8] 2 15) ∧
    (ChangesMem .rlHl s s.hl 2 (fun f res => ShiftOf .rl f (s.readByte s.hl) res s.cpu.f.c) ∧
      Row .rlHl s [0xCB#8, 0x16#8] 2 15) ∧
    (ChangesMem .rrHl s s.hl 2 (fun f res => ShiftOf .rr f (s.readByte s.hl) res s.cpu.f.c) ∧
      Row .rrHl s [0xCB#8, 0x1E#8] 2 15) ∧
    (ChangesMem .slaHl s s.hl 2 (fun f res => ShiftOf .sla f (s.readByte s.hl) res s.cpu.f.c) ∧
      Row .slaHl s [0xCB#8, 0x26#8] 2 15) ∧
    (ChangesMem .sraHl s s.hl 2 (fun f res => ShiftOf .sra f (s.readByte s.hl) res s.cpu.f.c) ∧
      Row .sraHl s [0xCB#8, 0x2E#8] 2 15) ∧
    (ChangesMem .srlHl s s.hl 2 (fun f res => ShiftOf .srl f (s.readByte s.hl) res s.cpu.f.c) ∧
      Row .srlHl s [0xCB#8, 0x3E#8] 2 15)

/-- The seven rotates and shifts of the byte at IX + d give each bit its source, with their flags (rules R342, R346, R350, R354, R358, R362, R366). -/
def Obligations.ShiftIxMovesBits : Prop :=
  ∀ s : State,
    (∀ (d : Byte), ChangesMem (.rlcIxd d) s (s.ixAddr d) 4 (fun f res => ShiftOf .rlc f (s.readByte (s.ixAddr d)) res s.cpu.f.c) ∧
      Row (.rlcIxd d) s [0xDD#8, 0xCB#8, d, 0x06#8] 2 23) ∧
    (∀ (d : Byte), ChangesMem (.rrcIxd d) s (s.ixAddr d) 4 (fun f res => ShiftOf .rrc f (s.readByte (s.ixAddr d)) res s.cpu.f.c) ∧
      Row (.rrcIxd d) s [0xDD#8, 0xCB#8, d, 0x0E#8] 2 23) ∧
    (∀ (d : Byte), ChangesMem (.rlIxd d) s (s.ixAddr d) 4 (fun f res => ShiftOf .rl f (s.readByte (s.ixAddr d)) res s.cpu.f.c) ∧
      Row (.rlIxd d) s [0xDD#8, 0xCB#8, d, 0x16#8] 2 23) ∧
    (∀ (d : Byte), ChangesMem (.rrIxd d) s (s.ixAddr d) 4 (fun f res => ShiftOf .rr f (s.readByte (s.ixAddr d)) res s.cpu.f.c) ∧
      Row (.rrIxd d) s [0xDD#8, 0xCB#8, d, 0x1E#8] 2 23) ∧
    (∀ (d : Byte), ChangesMem (.slaIxd d) s (s.ixAddr d) 4 (fun f res => ShiftOf .sla f (s.readByte (s.ixAddr d)) res s.cpu.f.c) ∧
      Row (.slaIxd d) s [0xDD#8, 0xCB#8, d, 0x26#8] 2 23) ∧
    (∀ (d : Byte), ChangesMem (.sraIxd d) s (s.ixAddr d) 4 (fun f res => ShiftOf .sra f (s.readByte (s.ixAddr d)) res s.cpu.f.c) ∧
      Row (.sraIxd d) s [0xDD#8, 0xCB#8, d, 0x2E#8] 2 23) ∧
    (∀ (d : Byte), ChangesMem (.srlIxd d) s (s.ixAddr d) 4 (fun f res => ShiftOf .srl f (s.readByte (s.ixAddr d)) res s.cpu.f.c) ∧
      Row (.srlIxd d) s [0xDD#8, 0xCB#8, d, 0x3E#8] 2 23)

/-- The seven rotates and shifts of the byte at IY + d give each bit its source, with their flags (rules R343, R347, R351, R355, R359, R363, R367). -/
def Obligations.ShiftIyMovesBits : Prop :=
  ∀ s : State,
    (∀ (d : Byte), ChangesMem (.rlcIyd d) s (s.iyAddr d) 4 (fun f res => ShiftOf .rlc f (s.readByte (s.iyAddr d)) res s.cpu.f.c) ∧
      Row (.rlcIyd d) s [0xFD#8, 0xCB#8, d, 0x06#8] 2 23) ∧
    (∀ (d : Byte), ChangesMem (.rrcIyd d) s (s.iyAddr d) 4 (fun f res => ShiftOf .rrc f (s.readByte (s.iyAddr d)) res s.cpu.f.c) ∧
      Row (.rrcIyd d) s [0xFD#8, 0xCB#8, d, 0x0E#8] 2 23) ∧
    (∀ (d : Byte), ChangesMem (.rlIyd d) s (s.iyAddr d) 4 (fun f res => ShiftOf .rl f (s.readByte (s.iyAddr d)) res s.cpu.f.c) ∧
      Row (.rlIyd d) s [0xFD#8, 0xCB#8, d, 0x16#8] 2 23) ∧
    (∀ (d : Byte), ChangesMem (.rrIyd d) s (s.iyAddr d) 4 (fun f res => ShiftOf .rr f (s.readByte (s.iyAddr d)) res s.cpu.f.c) ∧
      Row (.rrIyd d) s [0xFD#8, 0xCB#8, d, 0x1E#8] 2 23) ∧
    (∀ (d : Byte), ChangesMem (.slaIyd d) s (s.iyAddr d) 4 (fun f res => ShiftOf .sla f (s.readByte (s.iyAddr d)) res s.cpu.f.c) ∧
      Row (.slaIyd d) s [0xFD#8, 0xCB#8, d, 0x26#8] 2 23) ∧
    (∀ (d : Byte), ChangesMem (.sraIyd d) s (s.iyAddr d) 4 (fun f res => ShiftOf .sra f (s.readByte (s.iyAddr d)) res s.cpu.f.c) ∧
      Row (.sraIyd d) s [0xFD#8, 0xCB#8, d, 0x2E#8] 2 23) ∧
    (∀ (d : Byte), ChangesMem (.srlIyd d) s (s.iyAddr d) 4 (fun f res => ShiftOf .srl f (s.readByte (s.iyAddr d)) res s.cpu.f.c) ∧
      Row (.srlIyd d) s [0xFD#8, 0xCB#8, d, 0x3E#8] 2 23)

/-- RLD and RRD rotate the BCD digits of A and the byte at HL, with the flags of A (rules R368, R369). -/
def Obligations.RotateDigitsMovesNibbles : Prop :=
  ∀ s : State,
    (∃ t res, exec .rld s = .next t ∧
      BecomesF s t { s.cpu with a := t.cpu.a, pc := s.cpu.pc + 2#16 } [(s.hl, res)] ∧
      t.cpu.a.toNat = s.cpu.a.toNat / 16 * 16 + (s.readByte s.hl).toNat / 16 ∧
      res.toNat = (s.readByte s.hl).toNat % 16 * 16 + s.cpu.a.toNat % 16 ∧
      t.cpu.f.Are (128 ≤ t.cpu.a.toNat) (t.cpu.a.toNat = 0) False (EvenOnes t.cpu.a) False (s.cpu.f.c = true) ∧
      Row .rld s [0xED#8, 0x6F#8] 2 18) ∧
    (∃ t res, exec .rrd s = .next t ∧
      BecomesF s t { s.cpu with a := t.cpu.a, pc := s.cpu.pc + 2#16 } [(s.hl, res)] ∧
      t.cpu.a.toNat = s.cpu.a.toNat / 16 * 16 + (s.readByte s.hl).toNat % 16 ∧
      res.toNat = s.cpu.a.toNat % 16 * 16 + (s.readByte s.hl).toNat / 16 ∧
      t.cpu.f.Are (128 ≤ t.cpu.a.toNat) (t.cpu.a.toNat = 0) False (EvenOnes t.cpu.a) False (s.cpu.f.c = true) ∧
      Row .rrd s [0xED#8, 0x67#8] 2 18)

/-- BIT tests one bit: Z and P/V are its complement, and only F changes (rules R370, R371, R372, R373). -/
def Obligations.BitTestOnlySetsFlags : Prop :=
  ∀ s : State,
    (∀ (b : BitVec 3) (r : Reg8), TestsBit (.bitBR b r) s b (s.reg r) 2 ∧
      Row (.bitBR b r) s [0xCB#8, 0b01#2 ++ b ++ r.code] 2 8) ∧
    (∀ (b : BitVec 3), TestsBit (.bitBHl b) s b (s.readByte s.hl) 2 ∧
      Row (.bitBHl b) s [0xCB#8, 0b01#2 ++ b ++ 0b110#3] 2 12) ∧
    (∀ (b : BitVec 3) (d : Byte), TestsBit (.bitBIxd b d) s b (s.readByte (s.ixAddr d)) 4 ∧
      Row (.bitBIxd b d) s [0xDD#8, 0xCB#8, d, 0b01#2 ++ b ++ 0b110#3] 2 20) ∧
    (∀ (b : BitVec 3) (d : Byte), TestsBit (.bitBIyd b d) s b (s.readByte (s.iyAddr d)) 4 ∧
      Row (.bitBIyd b d) s [0xFD#8, 0xCB#8, d, 0b01#2 ++ b ++ 0b110#3] 2 20)

/-- SET and RES write one bit of a register or a byte and no flag (rules R374, R375, R376, R377, R378, R379, R380, R381). -/
def Obligations.BitSetResetWritesOneBit : Prop :=
  ∀ s : State,
    (∀ (b : BitVec 3) (r : Reg8), WritesBitOfReg (.setBR b r) s b r true ∧
      Row (.setBR b r) s [0xCB#8, 0b11#2 ++ b ++ r.code] 2 8) ∧
    (∀ (b : BitVec 3), WritesBitOfMem (.setBHl b) s b s.hl true 2 ∧
      Row (.setBHl b) s [0xCB#8, 0b11#2 ++ b ++ 0b110#3] 2 15) ∧
    (∀ (b : BitVec 3) (d : Byte), WritesBitOfMem (.setBIxd b d) s b (s.ixAddr d) true 4 ∧
      Row (.setBIxd b d) s [0xDD#8, 0xCB#8, d, 0b11#2 ++ b ++ 0b110#3] 2 23) ∧
    (∀ (b : BitVec 3) (d : Byte), WritesBitOfMem (.setBIyd b d) s b (s.iyAddr d) true 4 ∧
      Row (.setBIyd b d) s [0xFD#8, 0xCB#8, d, 0b11#2 ++ b ++ 0b110#3] 2 23) ∧
    (∀ (b : BitVec 3) (r : Reg8), WritesBitOfReg (.resBR b r) s b r false ∧
      Row (.resBR b r) s [0xCB#8, 0b10#2 ++ b ++ r.code] 2 8) ∧
    (∀ (b : BitVec 3), WritesBitOfMem (.resBHl b) s b s.hl false 2 ∧
      Row (.resBHl b) s [0xCB#8, 0b10#2 ++ b ++ 0b110#3] 2 15) ∧
    (∀ (b : BitVec 3) (d : Byte), WritesBitOfMem (.resBIxd b d) s b (s.ixAddr d) false 4 ∧
      Row (.resBIxd b d) s [0xDD#8, 0xCB#8, d, 0b10#2 ++ b ++ 0b110#3] 2 23) ∧
    (∀ (b : BitVec 3) (d : Byte), WritesBitOfMem (.resBIyd b d) s b (s.iyAddr d) false 4 ∧
      Row (.resBIyd b d) s [0xFD#8, 0xCB#8, d, 0b10#2 ++ b ++ 0b110#3] 2 23)

/-- JP goes to its address, JP cc only when the condition holds, and changes nothing else (rules R382, R383, R389, R390, R391). -/
def Obligations.JumpAbsoluteGoesToTarget : Prop :=
  ∀ s : State,
    (∀ (nn : Word), GoesTo (.jpNn nn) s nn ∧
      Row (.jpNn nn) s [0xC3#8, loByte nn, hiByte nn] 1 10) ∧
    (∀ (cc : Cond) (nn : Word), GoesTo (.jpCcNn cc nn) s (if s.cpu.f.cond cc = true then nn else s.cpu.pc + 3#16) ∧
      Row (.jpCcNn cc nn) s [0b11#2 ++ cc.code ++ 0b010#3, loByte nn, hiByte nn] 1 10) ∧
    (GoesTo .jpHl s (mkWord s.cpu.h s.cpu.l) ∧
      Row .jpHl s [0xE9#8] 1 4) ∧
    (GoesTo .jpIx s s.cpu.ix ∧
      Row .jpIx s [0xDD#8, 0xE9#8] 2 8) ∧
    (GoesTo .jpIy s s.cpu.iy ∧
      Row .jpIy s [0xFD#8, 0xE9#8] 2 8)

/-- JR and DJNZ go to pc + 2 + e when their condition holds, and past themselves otherwise (rules R384, R385, R386, R387, R388, R392). -/
def Obligations.JumpRelativeAddsDisplacement : Prop :=
  ∀ s : State,
    (∀ (e : Byte), GoesTo (.jrE e) s (s.relTarget e) ∧
      Row (.jrE e) s [0x18#8, e] 1 12) ∧
    (∀ (e : Byte), GoesTo (.jrCE e) s (if s.cpu.f.c = true then s.relTarget e else s.cpu.pc + 2#16) ∧
      Row (.jrCE e) s [0x38#8, e] 1 (if s.cpu.f.c = true then 12 else 7)) ∧
    (∀ (e : Byte), GoesTo (.jrNcE e) s (if s.cpu.f.c = false then s.relTarget e else s.cpu.pc + 2#16) ∧
      Row (.jrNcE e) s [0x30#8, e] 1 (if s.cpu.f.c = false then 12 else 7)) ∧
    (∀ (e : Byte), GoesTo (.jrZE e) s (if s.cpu.f.z = true then s.relTarget e else s.cpu.pc + 2#16) ∧
      Row (.jrZE e) s [0x28#8, e] 1 (if s.cpu.f.z = true then 12 else 7)) ∧
    (∀ (e : Byte), GoesTo (.jrNzE e) s (if s.cpu.f.z = false then s.relTarget e else s.cpu.pc + 2#16) ∧
      Row (.jrNzE e) s [0x20#8, e] 1 (if s.cpu.f.z = false then 12 else 7)) ∧
    (∀ (e : Byte), ∃ t, exec (.djnzE e) s = .next t ∧ Becomes s t
      { s.cpu with b := s.cpu.b - 1#8, pc := if s.cpu.b = 1#8 then s.cpu.pc + 2#16 else s.relTarget e } [] ∧
      Row (.djnzE e) s [0x10#8, e] 1 (if s.cpu.b = 1#8 then 8 else 13))

/-- CALL and RST push the address of the following instruction and go to their target (rules R393, R394, R399). -/
def Obligations.CallRestartPushReturnAddress : Prop :=
  ∀ s : State,
    (∀ (nn : Word), Calls (.callNn nn) s (s.cpu.pc + 3#16) nn ∧
      Row (.callNn nn) s [0xCD#8, loByte nn, hiByte nn] 1 17) ∧
    (∀ (cc : Cond) (nn : Word), (if s.cpu.f.cond cc = true then Calls (.callCcNn cc nn) s (s.cpu.pc + 3#16) nn else GoesTo (.callCcNn cc nn) s (s.cpu.pc + 3#16)) ∧
      Row (.callCcNn cc nn) s [0b11#2 ++ cc.code ++ 0b100#3, loByte nn, hiByte nn] 1 (if s.cpu.f.cond cc = true then 17 else 10)) ∧
    (∀ (y : BitVec 3), Calls (.rstP y) s (s.cpu.pc + 1#16) (BitVec.ofNat 16 (8 * y.toNat)) ∧
      Row (.rstP y) s [0b11#2 ++ y ++ 0b111#3] 1 11)

/-- RET, RETI, RETN pop pc; RETN also restores IFF1; RET cc only when the condition holds (rules R395, R396, R397, R398). -/
def Obligations.ReturnPopsProgramCounter : Prop :=
  ∀ s : State,
    (Returns .ret s s.cpu.iff1 ∧
      Row .ret s [0xC9#8] 1 10) ∧
    (∀ (cc : Cond), (if s.cpu.f.cond cc = true then Returns (.retCc cc) s s.cpu.iff1 else GoesTo (.retCc cc) s (s.cpu.pc + 1#16)) ∧
      Row (.retCc cc) s [0b11#2 ++ cc.code ++ 0b000#3] 1 (if s.cpu.f.cond cc = true then 11 else 5)) ∧
    (Returns .reti s s.cpu.iff1 ∧
      Row .reti s [0xED#8, 0x4D#8] 2 14) ∧
    (Returns .retn s s.cpu.iff2 ∧
      Row .retn s [0xED#8, 0x45#8] 2 14)

/-- IN and OUT move one byte between a register and the port of their I/O address (rules R400, R401, R406, R407). -/
def Obligations.InputOutputAtItsAddress : Prop :=
  ∀ s : State,
    (∀ (n : Byte), ∃ t, exec (.inAN n) s = .next t ∧ Becomes (s.ioRead (mkWord s.cpu.a n)).2 t
      { s.cpu with a := (s.ioRead (mkWord s.cpu.a n)).1, pc := s.cpu.pc + 2#16 } [] ∧
      Row (.inAN n) s [0xDB#8, n] 1 11) ∧
    (∀ (r : Reg8), ∃ t, exec (.inRC r) s = .next t ∧ BecomesF (s.ioRead s.bc).2 t
      { s.cpu.put r (s.ioRead s.bc).1 with pc := s.cpu.pc + 2#16 } [] ∧
      t.cpu.f.Are (128 ≤ (s.ioRead s.bc).1.toNat) ((s.ioRead s.bc).1 = 0#8) False (EvenOnes (s.ioRead s.bc).1) False
        (s.cpu.f.c = true) ∧
      Row (.inRC r) s [0xED#8, 0b01#2 ++ r.code ++ 0b000#3] 2 12) ∧
    (∀ (n : Byte), ∃ t, exec (.outNA n) s = .next t ∧ Becomes (s.ioWrite (mkWord s.cpu.a n) s.cpu.a) t { s.cpu with pc := s.cpu.pc + 2#16 } [] ∧
      Row (.outNA n) s [0xD3#8, n] 1 11) ∧
    (∀ (r : Reg8), ∃ t, exec (.outCR r) s = .next t ∧ Becomes (s.ioWrite s.bc (s.reg r)) t { s.cpu with pc := s.cpu.pc + 2#16 } [] ∧
      Row (.outCR r) s [0xED#8, 0b01#2 ++ r.code ++ 0b001#3] 2 12)

/-- The block inputs move one byte from the port of BC to (HL) and repeat until B is 0 (rules R402, R403, R404, R405). -/
def Obligations.BlockInputStoresOneByte : Prop :=
  ∀ s : State,
    (InputsByte .ini s 1#16 (s.cpu.pc + 2#16) ∧
      Row .ini s [0xED#8, 0xA2#8] 2 16) ∧
    (InputsByte .inir s 1#16 (if s.cpu.b = 1#8 then s.cpu.pc + 2#16 else s.cpu.pc) ∧
      Row .inir s [0xED#8, 0xB2#8] 2 (if s.cpu.b = 1#8 then 16 else 21)) ∧
    (InputsByte .ind s 0xFFFF#16 (s.cpu.pc + 2#16) ∧
      Row .ind s [0xED#8, 0xAA#8] 2 16) ∧
    (InputsByte .indr s 0xFFFF#16 (if s.cpu.b = 1#8 then s.cpu.pc + 2#16 else s.cpu.pc) ∧
      Row .indr s [0xED#8, 0xBA#8] 2 (if s.cpu.b = 1#8 then 16 else 21))

/-- The block outputs move one byte from (HL) to the port of BC, B already decremented, and repeat until B is 0 (rules R408, R409, R410, R411). -/
def Obligations.BlockOutputSendsOneByte : Prop :=
  ∀ s : State,
    (OutputsByte .outi s 1#16 (s.cpu.pc + 2#16) ∧
      Row .outi s [0xED#8, 0xA3#8] 2 16) ∧
    (OutputsByte .otir s 1#16 (if s.cpu.b = 1#8 then s.cpu.pc + 2#16 else s.cpu.pc) ∧
      Row .otir s [0xED#8, 0xB3#8] 2 (if s.cpu.b = 1#8 then 16 else 21)) ∧
    (OutputsByte .outd s 0xFFFF#16 (s.cpu.pc + 2#16) ∧
      Row .outd s [0xED#8, 0xAB#8] 2 16) ∧
    (OutputsByte .otdr s 0xFFFF#16 (if s.cpu.b = 1#8 then s.cpu.pc + 2#16 else s.cpu.pc) ∧
      Row .otdr s [0xED#8, 0xBB#8] 2 (if s.cpu.b = 1#8 then 16 else 21))

/-- Pairs, the byte F, the condition codes and the operand addresses are what their bits say (10_state.md R21, 10_state.md R26, 10_state.md R28, 30_encoding.md R108, 30_encoding.md R109). -/
def Obligations.RegisterViewsAndAddresses : Prop :=
  ∀ (s : State) (d : Byte),
    s.bc.toNat = s.cpu.b.toNat * 256 + s.cpu.c.toNat ∧
    s.de.toNat = s.cpu.d.toNat * 256 + s.cpu.e.toNat ∧
    s.hl.toNat = s.cpu.h.toNat * 256 + s.cpu.l.toNat ∧
    s.af.toNat = s.cpu.a.toNat * 256 + s.cpu.f.toByte.toNat ∧
    s.cpu.f.toByte.toNat =
      s.cpu.f.s.toNat * 128 + s.cpu.f.z.toNat * 64 + s.cpu.f.f5.toNat * 32 + s.cpu.f.h.toNat * 16 +
        s.cpu.f.f3.toNat * 8 + s.cpu.f.pv.toNat * 4 + s.cpu.f.n.toNat * 2 + s.cpu.f.c.toNat ∧
    ((s.ixAddr d).toNat : Int) = (s.cpu.ix.toNat + d.toInt) % 65536 ∧
    ((s.iyAddr d).toNat : Int) = (s.cpu.iy.toNat + d.toInt) % 65536 ∧
    ((s.relTarget d).toNat : Int) = (s.cpu.pc.toNat + 2 + d.toInt) % 65536 ∧
    (s.cpu.f.cond .nz = true ↔ s.cpu.f.z = false) ∧ (s.cpu.f.cond .z = true ↔ s.cpu.f.z = true) ∧
    (s.cpu.f.cond .nc = true ↔ s.cpu.f.c = false) ∧ (s.cpu.f.cond .c = true ↔ s.cpu.f.c = true) ∧
    (s.cpu.f.cond .po = true ↔ s.cpu.f.pv = false) ∧ (s.cpu.f.cond .pe = true ↔ s.cpu.f.pv = true) ∧
    (s.cpu.f.cond .p = true ↔ s.cpu.f.s = false) ∧ (s.cpu.f.cond .m = true ↔ s.cpu.f.s = true)

/-- Memory reads and writes go through the bank map; a word is two bytes, low byte first; a store to ROM is dropped (20_memory.md R61, 20_memory.md R62, 20_memory.md R65, 20_memory.md R66). -/
def Obligations.MemoryAccess : Prop :=
  ∀ (s : State) (a b : Word) (v : Byte) (w : Word) (p : Nat), s.mem.map[a.toNat / 2 ^ s.cfg.pageBits]? = some p →
    s.readByte a = s.physRead (p * 2 ^ s.cfg.pageBits + a.toNat % 2 ^ s.cfg.pageBits) ∧
    (s.cfg.nRomPages ≤ p →
      (∀ k, (s.writeByte a v).physRead k =
        if k = p * 2 ^ s.cfg.pageBits + a.toNat % 2 ^ s.cfg.pageBits then v else s.physRead k) ∧
      (s.translate b = p * 2 ^ s.cfg.pageBits + a.toNat % 2 ^ s.cfg.pageBits → (s.writeByte a v).readByte b = v)) ∧
    (p < s.cfg.nRomPages → s.writeByte a v = s) ∧
    (s.readWord a).toNat = (s.readByte (a + 1#16)).toNat * 256 + (s.readByte a).toNat ∧
    Becomes s (s.writeWord a w) s.cpu [(a, loByte w), (a + 1#16, hiByte w)]

/-- The port table: a bank port sets the page of its window, a device port reaches its device alone, and any other port does nothing (00_scope.md R5, 20_memory.md R67, 20_memory.md R71, 20_memory.md R72). `BANK_DECODE` is a parameter of the
configuration; that it is held as a modulus or a table is the model's choice of its form (log 2), which
no rule of the spec gives. -/
def Obligations.BankAndUnmappedPorts : Prop :=
  ∀ (s : State) (addr : Word) (v : Byte), s.cfg.wellFormed = true →
    (∀ w, s.cfg.bankPort[w]? = some (some (loByte addr)) →
      s.ioRead addr = (s.cfg.idleValue, s) ∧
      s.ioWrite addr v = { s with mem := { s.mem with map := s.mem.map.set w (bankDecode s.cfg.bankDecode v) } }) ∧
    bankDecode s.cfg.bankDecode v < s.cfg.nPhysPages ∧
    (∀ m, s.cfg.bankDecode = .modulo m → bankDecode s.cfg.bankDecode v = v.toNat % m) ∧
    (∀ pages, s.cfg.bankDecode = .table pages → pages[v.toNat]? = some (bankDecode s.cfg.bankDecode v)) ∧
    (∀ w : Nat, s.cfg.bankPort[w]? = some none →
      (s.ioWrite addr v).mem.map[w]? = s.mem.map[w]? ∧ ∀ t : State, step s = .next t → t.mem.map[w]? = s.mem.map[w]?) ∧
    (loByte addr = s.cfg.uartData ∨ loByte addr = s.cfg.uartStatus →
      (∃ u, (s.ioRead addr).2 = { s with uart := u }) ∧ ∃ u, s.ioWrite addr v = { s with uart := u }) ∧
    (∀ k, k < 8 → loByte addr = s.cfg.diskBase + BitVec.ofNat 8 k →
      (∃ d, (s.ioRead addr).2 = { s with disk := d }) ∧ ∃ d, s.ioWrite addr v = { s with disk := d }) ∧
    (loByte addr = s.cfg.nvAddr ∨ loByte addr = s.cfg.nvData →
      (s.ioRead addr).2 = s ∧ ∃ n, s.ioWrite addr v = { s with nvram := n }) ∧
    (some (loByte addr) ∉ s.cfg.bankPort → loByte addr ≠ s.cfg.uartData → loByte addr ≠ s.cfg.uartStatus →
      (∀ k, k < 8 → loByte addr ≠ s.cfg.diskBase + BitVec.ofNat 8 k) → loByte addr ≠ s.cfg.nvAddr →
      loByte addr ≠ s.cfg.nvData → s.ioRead addr = (s.cfg.idleValue, s) ∧ s.ioWrite addr v = s)

/-- The console UART: status, receive and transmit (R521, R522, R523). -/
def Obligations.ConsoleUart : Prop :=
  ∀ (s : State) (addr : Word) (v : Byte), s.cfg.wellFormed = true →
    (loByte addr = s.cfg.uartStatus →
      (s.ioRead addr).2 = s ∧ (s.ioRead addr).1.toNat = (if s.uart.rx = [] then 2 else 3) ∧ s.ioWrite addr v = s) ∧
    (loByte addr = s.cfg.uartData →
      (s.uart.rx = [] → s.ioRead addr = (s.cfg.uartEmptyValue, s)) ∧
      (∀ x rest, s.uart.rx = x :: rest → s.ioRead addr = (x, { s with uart := { s.uart with rx := rest } })) ∧
      s.ioWrite addr v = { s with uart := { s.uart with tx := s.uart.tx ++ [v] } })

/-- The disk controller's UNIT, LBA, STATUS and SLICES registers (R531, R532, R533, R537). -/
def Obligations.DiskRegisters : Prop :=
  ∀ (s : State) (addr : Word) (v : Byte), s.cfg.wellFormed = true →
    (loByte addr = s.cfg.diskBase →
      (s.ioRead addr).2 = s ∧ (s.ioRead addr).1.toNat = s.disk.dkUnit.toNat ∧
      s.ioWrite addr v = { s with disk := { s.disk with dkUnit := BitVec.ofNat 4 v.toNat } }) ∧
    (∀ k, k < 4 → loByte addr = s.cfg.diskBase + BitVec.ofNat 8 (k + 1) →
      (s.ioRead addr).2 = s ∧ (s.ioRead addr).1.toNat = s.disk.dkLba.toNat / 256 ^ k % 256 ∧
      ∃ lba, s.ioWrite addr v = { s with disk := { s.disk with dkLba := lba } } ∧
        ∀ j, j < 4 → lba.toNat / 256 ^ j % 256 = if j = k then v.toNat else s.disk.dkLba.toNat / 256 ^ j % 256) ∧
    (loByte addr = s.cfg.diskBase + 5#8 →
      (s.ioRead addr).2 = s ∧
      (s.ioRead addr).1.toNat =
        (if s.disk.dkState = .idle then 0 else 1) + (if s.disk.dkErr = true then 2 else 0) +
          (if (s.disk.unitAt s.disk.dkUnit).loaded = true then 4 else 0)) ∧
    (loByte addr = s.cfg.diskBase + 7#8 →
      (s.ioRead addr).2 = s ∧
      (s.ioRead addr).1.toNat = (s.disk.unitAt s.disk.dkUnit).slices % 256 ∧ s.ioWrite addr v = s)

/-- A disk command aborts a transfer in flight and starts one only on a sector that exists (R534). -/
def Obligations.DiskCommand : Prop :=
  ∀ (s : State) (addr : Word) (v : Byte), s.cfg.wellFormed = true → loByte addr = s.cfg.diskBase + 5#8 →
    ∃ d, s.ioWrite addr v = { s with disk := d } ∧
      d.dkIdx = 0 ∧ d.units = s.disk.units ∧ d.dkUnit = s.disk.dkUnit ∧ d.dkLba = s.disk.dkLba ∧
      d.manifestWarning = s.disk.manifestWarning ∧
      (v = 0#8 → d.dkState = .idle ∧ d.dkErr = false) ∧
      ((v = 1#8 ∨ v = 2#8) → (s.disk.unitAt s.disk.dkUnit).loaded = true →
        s.disk.dkLba.toNat < (s.disk.unitAt s.disk.dkUnit).total →
        d.dkState = (if v = 1#8 then .readXfer else .writeXfer) ∧ d.dkErr = false ∧
          d.dkCurUnit = s.disk.dkUnit ∧ d.dkCurLba = s.disk.dkLba) ∧
      (v = 1#8 → (s.disk.unitAt s.disk.dkUnit).loaded = true →
        s.disk.dkLba.toNat < (s.disk.unitAt s.disk.dkUnit).total →
        ∀ k, k < s.cfg.sectorSize →
          d.dkBuf[k]? = (s.disk.unitAt s.disk.dkUnit).image[s.disk.dkLba.toNat * s.cfg.sectorSize + k]?) ∧
      ((v = 1#8 ∨ v = 2#8) →
        ((s.disk.unitAt s.disk.dkUnit).loaded = false ∨
          (s.disk.unitAt s.disk.dkUnit).total ≤ s.disk.dkLba.toNat) →
        d.dkState = .idle ∧ d.dkErr = true) ∧
      (v ≠ 0#8 → v ≠ 1#8 → v ≠ 2#8 → d.dkState = .idle ∧ d.dkErr = true)

/-- The disk DATA port moves a sector byte by byte and commits a written sector whole with its last byte (R535, R536). -/
def Obligations.DiskData : Prop :=
  ∀ (s : State) (addr : Word) (v : Byte), s.Inv → loByte addr = s.cfg.diskBase + 6#8 →
    (s.disk.dkState = .readXfer →
      s.disk.dkBuf[s.disk.dkIdx]? = some (s.ioRead addr).1 ∧
      (s.disk.dkIdx + 1 ≠ s.cfg.sectorSize →
        (s.ioRead addr).2 = { s with disk := { s.disk with dkIdx := s.disk.dkIdx + 1 } }) ∧
      (s.disk.dkIdx + 1 = s.cfg.sectorSize →
        ∃ curUnit curLba, (s.ioRead addr).2 =
          { s with
            disk := { s.disk with dkState := .idle, dkIdx := 0, dkCurUnit := curUnit, dkCurLba := curLba } })) ∧
    (s.disk.dkState ≠ .readXfer → s.ioRead addr = (s.cfg.idleValue, s)) ∧
    (s.disk.dkState = .writeXfer → s.disk.dkIdx + 1 ≠ s.cfg.sectorSize →
      s.ioWrite addr v =
        { s with disk := { s.disk with dkBuf := s.disk.dkBuf.set s.disk.dkIdx v, dkIdx := s.disk.dkIdx + 1 } }) ∧
    (s.disk.dkState = .writeXfer → s.disk.dkIdx + 1 = s.cfg.sectorSize →
      ∃ d image, s.ioWrite addr v = { s with disk := d } ∧
        d = { s.disk with
          units := d.units
          dkBuf := s.disk.dkBuf.set s.disk.dkIdx v
          dkState := .idle
          dkIdx := 0
          dkCurUnit := d.dkCurUnit
          dkCurLba := d.dkCurLba
          manifestWarning :=
            s.disk.manifestWarning ||
              ((s.disk.unitAt s.disk.dkCurUnit).manifest && !(s.disk.unitAt s.disk.dkCurUnit).warnSuppressed) } ∧
        d.unitAt s.disk.dkCurUnit = { s.disk.unitAt s.disk.dkCurUnit with image := image, dirty := true } ∧
        (∀ u, u ≠ s.disk.dkCurUnit → d.unitAt u = s.disk.unitAt u) ∧
        (∀ k, k < s.cfg.sectorSize →
          image[s.disk.dkCurLba.toNat * s.cfg.sectorSize + k]? = (s.disk.dkBuf.set s.disk.dkIdx v)[k]?) ∧
        (∀ k, k < s.disk.dkCurLba.toNat * s.cfg.sectorSize ∨
            s.disk.dkCurLba.toNat * s.cfg.sectorSize + s.cfg.sectorSize ≤ k →
          image[k]? = (s.disk.unitAt s.disk.dkCurUnit).image[k]?)) ∧
    (s.disk.dkState ≠ .writeXfer → s.ioWrite addr v = s)

/-- The NVRAM index and data ports; a write recomputes the checksum and never writes it directly (R553, R554, R555). -/
def Obligations.NvramPorts : Prop :=
  ∀ (s : State) (addr : Word) (v : Byte), s.cfg.wellFormed = true →
    (loByte addr = s.cfg.nvAddr →
      s.ioRead addr = (s.nvram.addr, s) ∧ s.ioWrite addr v = { s with nvram := { s.nvram with addr := v } }) ∧
    (loByte addr = s.cfg.nvData →
      (s.ioRead addr).2 = s ∧
      (s.nvram.addr.toNat ≤ 4 → s.nvram.record.get s.nvram.addr.toNat = some (s.ioRead addr).1) ∧
      (5 ≤ s.nvram.addr.toNat → (s.ioRead addr).1 = s.cfg.idleValue) ∧
      (4 ≤ s.nvram.addr.toNat → s.ioWrite addr v = s) ∧
      (s.nvram.addr.toNat ≤ 3 →
        ∃ nv, s.ioWrite addr v = { s with nvram := { s.nvram with record := nv, dirty := true } } ∧
          (∀ k, k < 4 → nv.get k = if k = s.nvram.addr.toNat then some v else s.nvram.record.get k) ∧
          nv.checksum = nvChecksum s.cfg.nvChecksum nv.signature nv.selector nv.unit nv.slice))

/-- Acceptance of the non-maskable interrupt, in every state in which it is pending (R505). -/
def Obligations.NonMaskableInterrupt : Prop :=
  ∀ s : State, s.cfg.wellFormed = true → s.pins.nmiPending = true →
    ∃ t, step s = .next t ∧
      t.cpu =
        { s.cpu with
          eiDelay := false, halted := false, iff1 := false, r := t.cpu.r, sp := s.cpu.sp - 2#16, pc := 0x0066#16 } ∧
      t.cpu.r.toNat = s.cpu.r.toNat / 128 * 128 + (s.cpu.r.toNat + 1) % 128 ∧
      MemoryAfter s t [(s.cpu.sp - 1#16, hiByte s.cpu.pc), (s.cpu.sp - 2#16, loByte s.cpu.pc)] ∧
      SameRest { s with pins := { s.pins with nmiPending := false } } t ∧
      stepTStates s = 11

/-- Acceptance of a maskable interrupt in modes 0, 1 and 2 (R506, R507, R508). -/
def Obligations.MaskableInterrupt : Prop :=
  ∀ s : State, s.cfg.wellFormed = true → s.pins.nmiPending = false → s.pins.intLine = true → s.cpu.iff1 = true →
    s.cpu.eiDelay = false →
    (s.cpu.im = .im0 → (∀ y : BitVec 3, s.pins.intData ≠ 0b11#2 ++ y ++ 0b111#3) →
      step s = .refused (.mode0Interrupt s.pins.intData)) ∧
    ((s.cpu.im = .im0 → ∃ y : BitVec 3, s.pins.intData = 0b11#2 ++ y ++ 0b111#3) →
      ∃ t, step s = .next t ∧
        Becomes s t
          { s.cpu with
            halted := false, iff1 := false, iff2 := false, r := t.cpu.r, sp := s.cpu.sp - 2#16, pc := t.cpu.pc }
          [(s.cpu.sp - 1#16, hiByte s.cpu.pc), (s.cpu.sp - 2#16, loByte s.cpu.pc)] ∧
        t.cpu.r.toNat = s.cpu.r.toNat / 128 * 128 + (s.cpu.r.toNat + 1) % 128 ∧
        (∀ y : BitVec 3, s.cpu.im = .im0 → s.pins.intData = 0b11#2 ++ y ++ 0b111#3 →
          t.cpu.pc.toNat = 8 * y.toNat ∧ stepTStates s = 13) ∧
        (s.cpu.im = .im1 → t.cpu.pc = 0x0038#16 ∧ stepTStates s = 13) ∧
        (∀ p : Word, s.cpu.im = .im2 → p.toNat = s.cpu.i.toNat * 256 + s.pins.intData.toNat / 2 * 2 →
          t.cpu.pc = mkWord (t.readByte (p + 1#16)) (t.readByte p) ∧ stepTStates s = 19))

/-- A halted cycle advances R and nothing else (60_exceptions.md R512, 60_exceptions.md R503). -/
def Obligations.HaltedCycle : Prop :=
  ∀ s : State, s.cfg.wellFormed = true → s.pins.nmiPending = false →
    (s.pins.intLine = false ∨ s.cpu.iff1 = false ∨ s.cpu.eiDelay = true) → s.cpu.halted = true →
    ∃ t, step s = .next t ∧ Becomes s t { s.cpu with eiDelay := false, r := t.cpu.r } [] ∧
      t.cpu.r.toNat = s.cpu.r.toNat / 128 * 128 + (s.cpu.r.toNat + 1) % 128 ∧ stepTStates s = 4

/-- RETN right after the acceptance of a non-maskable interrupt resumes the interrupted program (60_exceptions.md R505, 60_exceptions.md R510, 60_exceptions.md R511, 48_jump_call_return.md R398). -/
def Obligations.ReturnFromNonMaskable : Prop :=
  ∀ s : State, s.Inv → s.pins.nmiPending = true →
    s.isRom (s.cpu.sp - 1#16) = false → s.isRom (s.cpu.sp - 2#16) = false →
    ∃ t u, step s = .next t ∧ exec .retn t = .next u ∧
      u.cpu = { s.cpu with eiDelay := false, halted := false, iff1 := s.cpu.iff2, r := t.cpu.r } ∧
      (∀ a, s.translate a ≠ s.translate (s.cpu.sp - 1#16) → s.translate a ≠ s.translate (s.cpu.sp - 2#16) →
        u.readByte a = s.readByte a) ∧
      u.pins.nmiPending = false ∧ u.uart = s.uart ∧ u.disk = s.disk ∧ u.nvram = s.nvram

/-- Every step keeps the invariant of the machine (10_state.md R37, 10_state.md R38, 10_state.md R42, 10_state.md R43, 10_state.md R50, 60_exceptions.md R550, 10_state.md R31, 10_state.md R34). -/
def Obligations.StepKeepsTheInvariant : Prop :=
  ∀ s t : State, s.Inv → step s = .next t → t.Inv

/-- The state right after reset meets the invariant (10_state.md R46, 10_state.md R47). -/
def Obligations.ResetMeetsTheInvariant : Prop :=
  State.reset.Inv

/-- What reset leaves: the values the spec gives, and what the host's reset() keeps and draws afresh (RAM as in logs 3 and 7) (10_state.md R43, 10_state.md R46, 10_state.md R47, 70_reset_and_hazards.md R608, 20_memory.md R69).
Three clauses are the model's choice, not the spec's: that a RAM byte becomes the free value `Config.ramDraw` of the next
`epoch`, that the counter `epoch` goes one further (log 3: the draw is fresh, as R69 wants), and that `State.reset` lists
no byte (logs 3, 7). -/
def Obligations.ResetValues : Prop :=
  (State.reset.cpu.pc = 0#16 ∧ State.reset.cpu.i = 0#8 ∧ State.reset.cpu.r = 0#8 ∧ State.reset.cpu.iff1 = false ∧
      State.reset.cpu.iff2 = false ∧ State.reset.cpu.im = .im0 ∧ State.reset.cpu.halted = false ∧
      State.reset.cpu.eiDelay = false ∧ State.reset.pins.nmiPending = false ∧
      State.reset.mem.map = State.reset.cfg.resetMap ∧ State.reset.mem.bytes = [] ∧
      State.reset.disk.dkState = .idle ∧ State.reset.disk.dkIdx = 0 ∧ State.reset.disk.dkErr = false ∧
      State.reset.disk.dkUnit = 0#4 ∧ State.reset.disk.dkLba = 0#32 ∧ State.reset.nvram.addr = 0#8) ∧
    ∀ s : State, s.life = .running →
      s.hostResetCall.cpu.pc = 0#16 ∧ s.hostResetCall.cpu.i = 0#8 ∧ s.hostResetCall.cpu.r = 0#8 ∧
      s.hostResetCall.cpu.iff1 = false ∧ s.hostResetCall.cpu.iff2 = false ∧ s.hostResetCall.cpu.im = .im0 ∧
      s.hostResetCall.cpu.halted = false ∧ s.hostResetCall.cpu.eiDelay = false ∧
      s.hostResetCall.pins.nmiPending = false ∧ s.hostResetCall.mem.map = s.cfg.resetMap ∧
      s.hostResetCall.mem.romLoaded = s.mem.romLoaded ∧ (∀ x ∈ s.hostResetCall.mem.bytes, x.1 < s.cfg.romSize) ∧
      (∀ k, k < s.cfg.romSize → s.hostResetCall.physRead k = s.physRead k) ∧
      s.hostResetCall.mem.epoch = s.mem.epoch + 1 ∧
      (∀ k, s.cfg.romSize ≤ k → s.hostResetCall.physRead k = Config.ramDraw (s.mem.epoch + 1) k) ∧
      (∃ buf curUnit curLba, s.hostResetCall.disk =
        { s.disk with
          dkUnit := 0#4, dkLba := 0#32, dkState := .idle, dkErr := false, dkIdx := 0
          dkBuf := buf, dkCurUnit := curUnit, dkCurLba := curLba }) ∧
      s.hostResetCall.uart = s.uart ∧ s.hostResetCall.nvram = { s.nvram with addr := 0#8 } ∧
      s.hostResetCall.life = .running ∧ s.hostResetCall.cfg = s.cfg ∧ s.hostResetCall.bridge.state = .idle

/-- No step changes a byte of ROM, the configuration, the lifecycle or the bridge (10_state.md R37, 20_memory.md R66, 10_state.md R48, 10_state.md R51). -/
def Obligations.RomIsNeverChanged : Prop :=
  ∀ s t : State, step s = .next t →
    (∀ k, k < s.cfg.nRomPages * 2 ^ s.cfg.pageBits → t.physRead k = s.physRead k) ∧
    t.cfg = s.cfg ∧ t.life = s.life ∧ t.bridge = s.bridge ∧ t.mem.romLoaded = s.mem.romLoaded ∧
    t.mem.epoch = s.mem.epoch

/-- The shadow set, I, R[7], IM, the interrupt enables and halted change only by the instructions that own them (10_state.md R22, 10_state.md R29, 10_state.md R30, 10_state.md R31, 10_state.md R32, 10_state.md R33, 10_state.md R34). -/
def Obligations.OwnInstructionsOnly : Prop :=
  ∀ (i : Instr) (s t : State), exec i s = .next t →
    (i ≠ .exAfAf → t.cpu.shA = s.cpu.shA ∧ t.cpu.shF = s.cpu.shF) ∧
    (i ≠ .exx →
      t.cpu.shB = s.cpu.shB ∧ t.cpu.shC = s.cpu.shC ∧ t.cpu.shD = s.cpu.shD ∧ t.cpu.shE = s.cpu.shE ∧
      t.cpu.shH = s.cpu.shH ∧ t.cpu.shL = s.cpu.shL) ∧
    (i ≠ .ldIA → t.cpu.i = s.cpu.i) ∧
    (i ≠ .ldRefreshA → t.cpu.r = s.cpu.r) ∧
    (i ≠ .im0 → i ≠ .im1 → i ≠ .im2 → t.cpu.im = s.cpu.im) ∧
    (i ≠ .di → i ≠ .ei → i ≠ .retn → t.cpu.iff1 = s.cpu.iff1) ∧
    (i ≠ .di → i ≠ .ei → t.cpu.iff2 = s.cpu.iff2) ∧
    (i ≠ .halt → t.cpu.halted = s.cpu.halted) ∧
    (i ≠ .ei → t.cpu.eiDelay = s.cpu.eiDelay)

/-- Only the input and output instructions reach a device or the bank map (20_memory.md R60, 20_memory.md R67, 10_state.md R38). -/
def Obligations.DevicesOnlyByInputOutput : Prop :=
  ∀ (i : Instr) (s t : State), ¬ IsInputOutput i → exec i s = .next t →
    t.uart = s.uart ∧ t.disk = s.disk ∧ t.nvram = s.nvram ∧ t.pins = s.pins ∧ t.mem.map = s.mem.map

/-- Bits 5 and 3 of F are a fresh draw after every instruction that computes flags, and kept by every other but POP AF and EX AF,AF' (10_state.md R27, 00_scope.md R8). The draws,
`Config.drawByte` at the counter `draws`, are the model's form of a fresh draw: a DESIGN CHOICE, log 5. -/
def Obligations.UnspecifiedFlagBits : Prop :=
  ∀ (i : Instr) (s : State), ∃ t, exec i s = .next t ∧
    (computesFlags i = true →
      t.draws = s.draws + 1 ∧ t.cpu.f.f5 = (Config.drawByte s.draws).getLsbD 5 ∧
        t.cpu.f.f3 = (Config.drawByte s.draws).getLsbD 3) ∧
    (computesFlags i = false →
      t.draws = s.draws ∧ (i ≠ .popQq .af → i ≠ .exAfAf → t.cpu.f = s.cpu.f)) ∧
    (i = .popQq .af →
      t.cpu.f.f5 = (s.readByte s.cpu.sp).getLsbD 5 ∧ t.cpu.f.f3 = (s.readByte s.cpu.sp).getLsbD 3) ∧
    (i = .exAfAf → t.cpu.f.f5 = s.cpu.shF.f5 ∧ t.cpu.f.f3 = s.cpu.shF.f3)

/-- setSetting accepts exactly the four forms, an accepted setting reads back, and the host's one-shot polls clear what they report (60_exceptions.md R548, 60_exceptions.md R552, 60_exceptions.md R556, 60_exceptions.md R557, 60_exceptions.md R558). Strings are
lists of characters (log 20). -/
def Obligations.HostPollsAndSettings : Prop :=
  ∀ s : State, s.life ≠ .uninit → s.cfg.wellFormed = true →
    s.hostCheckManifestWriteWarning.1 = s.disk.manifestWarning ∧
    s.hostCheckManifestWriteWarning.2.hostCheckManifestWriteWarning.1 = false ∧
    s.hostHasChange.1 = s.nvram.dirty ∧ s.hostHasChange.2.hostHasChange.1 = false ∧
    ∀ cs : List Char,
      (cs = s.cfg.nvMenuString → SetsBootRecord s cs 0x00#8 0xFF#8 0xFF#8) ∧
      (∀ c, AsciiLetter c → cs = [c] → SetsBootRecord s cs (BitVec.ofNat 8 c.toNat) 0xFF#8 0xFF#8) ∧
      (∀ u, u ≤ 15 → cs = Nat.toDigits 10 u → SetsBootRecord s cs 0x00#8 (BitVec.ofNat 8 u) 0xFF#8) ∧
      (∀ u t, u ≤ 15 → t ≤ 254 → cs = Nat.toDigits 10 u ++ '.' :: Nat.toDigits 10 t →
        SetsBootRecord s cs 0x00#8 (BitVec.ofNat 8 u) (BitVec.ofNat 8 t)) ∧
      (cs ≠ s.cfg.nvMenuString → (∀ c, AsciiLetter c → cs ≠ [c]) → (∀ u, u ≤ 15 → cs ≠ Nat.toDigits 10 u) →
        (∀ u t, u ≤ 15 → t ≤ 254 → cs ≠ Nat.toDigits 10 u ++ '.' :: Nat.toDigits 10 t) →
        s.hostSetSetting cs = (false, s)) ∧
      ((s.hostSetSetting cs).1 = true →
        (s.hostSetSetting cs).2.hostGetSetting = cs ∧ (s.hostSetSetting cs).2.hostIsInitialized = true ∧
          (s.hostSetSetting cs).2.hostHasChange.1 = true)
end

