-- ==== Sys2Proof/Laws/Bits.lean ====
section
/-! SUPPORT. Byte order, sign and parity of bytes, and F as a byte. -/

namespace Sys2Proof

theorem mkWord_toNat (h l : Byte) : (mkWord h l).toNat = h.toNat * 256 + l.toNat := by
  have hl : l.toNat < 2 ^ 8 := l.isLt
  refine (BitVec.toNat_append h l).trans ?_
  rw [Nat.shiftLeft_eq, Nat.mul_comm, ← Nat.two_pow_add_eq_or_of_lt hl]

theorem hiByte_toNat (v : Word) : (hiByte v).toNat = v.toNat / 256 := by
  have := v.isLt
  rw [hiByte, BitVec.extractLsb'_toNat, Nat.shiftRight_eq_div_pow]
  omega

theorem loByte_toNat (v : Word) : (loByte v).toNat = v.toNat % 256 := by
  rw [loByte, BitVec.extractLsb'_toNat, Nat.shiftRight_eq_div_pow]
  omega

@[simp] theorem hiByte_mkWord (h l : Byte) : hiByte (mkWord h l) = h := by
  have := h.isLt
  have := l.isLt
  apply BitVec.eq_of_toNat_eq
  rw [hiByte_toNat, mkWord_toNat]
  omega

@[simp] theorem loByte_mkWord (h l : Byte) : loByte (mkWord h l) = l := by
  have := l.isLt
  apply BitVec.eq_of_toNat_eq
  rw [loByte_toNat, mkWord_toNat]
  omega

@[simp] theorem mkWord_hi_lo (v : Word) : mkWord (hiByte v) (loByte v) = v := by
  apply BitVec.eq_of_toNat_eq
  rw [mkWord_toNat, hiByte_toNat, loByte_toNat]
  omega

theorem byte_msb (v : Byte) : v.getLsbD 7 = decide (128 ≤ v.toNat) := by
  have := BitVec.msb_eq_decide v
  simpa [BitVec.msb, BitVec.getMsbD] using this

theorem word_msb (v : Word) : v.getLsbD 15 = decide (32768 ≤ v.toNat) := by
  have := BitVec.msb_eq_decide v
  simpa [BitVec.msb, BitVec.getMsbD] using this

theorem byte_toInt (v : Byte) : v.toInt = if v.toNat < 128 then (v.toNat : Int) else v.toNat - 256 := by
  rw [BitVec.toInt_eq_toNat_cond]; split <;> split <;> omega

theorem word_toInt (v : Word) : v.toInt = if v.toNat < 32768 then (v.toNat : Int) else v.toNat - 65536 := by
  rw [BitVec.toInt_eq_toNat_cond]; split <;> split <;> omega

theorem byte_zero (v : Byte) : (v == 0#8) = decide (v.toNat = 0) := by
  rw [Bool.eq_iff_iff]; simp [BitVec.toNat_eq]

theorem word_zero (v : Word) : (v == 0#16) = decide (v.toNat = 0) := by
  rw [Bool.eq_iff_iff]; simp [BitVec.toNat_eq]

/-- A displacement added to an address (30_encoding.md rules R108, R109). -/
theorem add_sext16_toNat (a : Word) (d : Byte) : ((a + sext16 d).toNat : Int) = (a.toNat + d.toInt) % 65536 := by
  have h1 := a.isLt
  have h2 := d.isLt
  have h3 : (sext16 d).toNat = if d.toNat < 128 then d.toNat else d.toNat + 65280 := by
    have e : (sext16 d).toInt = d.toInt := BitVec.toInt_signExtend_of_le (by omega)
    have e1 := word_toInt (sext16 d)
    have e2 := byte_toInt d
    have := (sext16 d).isLt
    split at e1 <;> split at e2 <;> split <;> omega
  have e2 := byte_toInt d
  rw [BitVec.toNat_add, h3]
  split at e2 <;> split <;> omega

namespace Machine

/-- `parity8` is the parity of the number of 1 bits (43_arith8.md rule R257). -/
theorem parity8_iff (v : Byte) : parity8 v = true ↔ EvenOnes v := by
  simp only [parity8, EvenOnes, List.range, List.range.loop, List.countP_cons, List.countP_nil]
  cases v.getLsbD 0 <;> cases v.getLsbD 1 <;> cases v.getLsbD 2 <;> cases v.getLsbD 3 <;>
    cases v.getLsbD 4 <;> cases v.getLsbD 5 <;> cases v.getLsbD 6 <;> cases v.getLsbD 7 <;> decide

@[simp] theorem Flags.ofByte_toByte (f : Flags) : Flags.ofByte f.toByte = f := by
  obtain ⟨s, z, f5, h, f3, pv, n, c⟩ := f
  cases s <;> cases z <;> cases f5 <;> cases h <;> cases f3 <;> cases pv <;> cases n <;> cases c <;> rfl

@[simp] theorem Flags.toByte_ofByte (v : Byte) : (Flags.ofByte v).toByte = v := by
  revert v; decide +kernel

end Machine
end Sys2Proof
end

