-- ==== Sys2Proof/Laws/State.lean ====
section
/-! SUPPORT. What each update of the state leaves in each field, and that an update outside memory leaves every read of
memory as it was. One lemma per field per update, so that no proof unfolds a record update. -/

namespace Sys2Proof.Machine

@[simp] theorem State.setSp_cpu (s : State) (v : Word) : (s.setSp v).cpu = { s.cpu with sp := v } := rfl
@[simp] theorem State.setSp_pins (s : State) (v : Word) : (s.setSp v).pins = s.pins := rfl
@[simp] theorem State.setSp_mem (s : State) (v : Word) : (s.setSp v).mem = s.mem := rfl
@[simp] theorem State.setSp_uart (s : State) (v : Word) : (s.setSp v).uart = s.uart := rfl
@[simp] theorem State.setSp_disk (s : State) (v : Word) : (s.setSp v).disk = s.disk := rfl
@[simp] theorem State.setSp_nvram (s : State) (v : Word) : (s.setSp v).nvram = s.nvram := rfl
@[simp] theorem State.setSp_bridge (s : State) (v : Word) : (s.setSp v).bridge = s.bridge := rfl
@[simp] theorem State.setSp_life (s : State) (v : Word) : (s.setSp v).life = s.life := rfl
@[simp] theorem State.setSp_draws (s : State) (v : Word) : (s.setSp v).draws = s.draws := rfl
@[simp] theorem State.setSp_cfg (s : State) (v : Word) : (s.setSp v).cfg = s.cfg := rfl
@[simp] theorem State.setSp_physRead (s : State) (v : Word) (w : Nat) : (s.setSp v).physRead w = s.physRead w := rfl
@[simp] theorem State.setSp_pageOf (s : State) (v : Word) (w : Word) : (s.setSp v).pageOf w = s.pageOf w := rfl
@[simp] theorem State.setSp_translate (s : State) (v : Word) (w : Word) : (s.setSp v).translate w = s.translate w := rfl
@[simp] theorem State.setSp_isRom (s : State) (v : Word) (w : Word) : (s.setSp v).isRom w = s.isRom w := rfl
@[simp] theorem State.setSp_readByte (s : State) (v : Word) (w : Word) : (s.setSp v).readByte w = s.readByte w := rfl
@[simp] theorem State.setSp_readWord (s : State) (v : Word) (w : Word) : (s.setSp v).readWord w = s.readWord w := rfl

@[simp] theorem State.setPc_cpu (s : State) (v : Word) : (s.setPc v).cpu = { s.cpu with pc := v } := rfl
@[simp] theorem State.setPc_pins (s : State) (v : Word) : (s.setPc v).pins = s.pins := rfl
@[simp] theorem State.setPc_mem (s : State) (v : Word) : (s.setPc v).mem = s.mem := rfl
@[simp] theorem State.setPc_uart (s : State) (v : Word) : (s.setPc v).uart = s.uart := rfl
@[simp] theorem State.setPc_disk (s : State) (v : Word) : (s.setPc v).disk = s.disk := rfl
@[simp] theorem State.setPc_nvram (s : State) (v : Word) : (s.setPc v).nvram = s.nvram := rfl
@[simp] theorem State.setPc_bridge (s : State) (v : Word) : (s.setPc v).bridge = s.bridge := rfl
@[simp] theorem State.setPc_life (s : State) (v : Word) : (s.setPc v).life = s.life := rfl
@[simp] theorem State.setPc_draws (s : State) (v : Word) : (s.setPc v).draws = s.draws := rfl
@[simp] theorem State.setPc_cfg (s : State) (v : Word) : (s.setPc v).cfg = s.cfg := rfl
@[simp] theorem State.setPc_physRead (s : State) (v : Word) (w : Nat) : (s.setPc v).physRead w = s.physRead w := rfl
@[simp] theorem State.setPc_pageOf (s : State) (v : Word) (w : Word) : (s.setPc v).pageOf w = s.pageOf w := rfl
@[simp] theorem State.setPc_translate (s : State) (v : Word) (w : Word) : (s.setPc v).translate w = s.translate w := rfl
@[simp] theorem State.setPc_isRom (s : State) (v : Word) (w : Word) : (s.setPc v).isRom w = s.isRom w := rfl
@[simp] theorem State.setPc_readByte (s : State) (v : Word) (w : Word) : (s.setPc v).readByte w = s.readByte w := rfl
@[simp] theorem State.setPc_readWord (s : State) (v : Word) (w : Word) : (s.setPc v).readWord w = s.readWord w := rfl

@[simp] theorem State.advance_cpu (s : State) (n : Nat) : (s.advance n).cpu = { s.cpu with pc := s.cpu.pc + BitVec.ofNat 16 n } := rfl
@[simp] theorem State.advance_pins (s : State) (n : Nat) : (s.advance n).pins = s.pins := rfl
@[simp] theorem State.advance_mem (s : State) (n : Nat) : (s.advance n).mem = s.mem := rfl
@[simp] theorem State.advance_uart (s : State) (n : Nat) : (s.advance n).uart = s.uart := rfl
@[simp] theorem State.advance_disk (s : State) (n : Nat) : (s.advance n).disk = s.disk := rfl
@[simp] theorem State.advance_nvram (s : State) (n : Nat) : (s.advance n).nvram = s.nvram := rfl
@[simp] theorem State.advance_bridge (s : State) (n : Nat) : (s.advance n).bridge = s.bridge := rfl
@[simp] theorem State.advance_life (s : State) (n : Nat) : (s.advance n).life = s.life := rfl
@[simp] theorem State.advance_draws (s : State) (n : Nat) : (s.advance n).draws = s.draws := rfl
@[simp] theorem State.advance_cfg (s : State) (n : Nat) : (s.advance n).cfg = s.cfg := rfl
@[simp] theorem State.advance_physRead (s : State) (n : Nat) (w : Nat) : (s.advance n).physRead w = s.physRead w := rfl
@[simp] theorem State.advance_pageOf (s : State) (n : Nat) (w : Word) : (s.advance n).pageOf w = s.pageOf w := rfl
@[simp] theorem State.advance_translate (s : State) (n : Nat) (w : Word) : (s.advance n).translate w = s.translate w := rfl
@[simp] theorem State.advance_isRom (s : State) (n : Nat) (w : Word) : (s.advance n).isRom w = s.isRom w := rfl
@[simp] theorem State.advance_readByte (s : State) (n : Nat) (w : Word) : (s.advance n).readByte w = s.readByte w := rfl
@[simp] theorem State.advance_readWord (s : State) (n : Nat) (w : Word) : (s.advance n).readWord w = s.readWord w := rfl

@[simp] theorem State.setBc_cpu (s : State) (v : Word) : (s.setBc v).cpu = { s.cpu with b := hiByte v, c := loByte v } := rfl
@[simp] theorem State.setBc_pins (s : State) (v : Word) : (s.setBc v).pins = s.pins := rfl
@[simp] theorem State.setBc_mem (s : State) (v : Word) : (s.setBc v).mem = s.mem := rfl
@[simp] theorem State.setBc_uart (s : State) (v : Word) : (s.setBc v).uart = s.uart := rfl
@[simp] theorem State.setBc_disk (s : State) (v : Word) : (s.setBc v).disk = s.disk := rfl
@[simp] theorem State.setBc_nvram (s : State) (v : Word) : (s.setBc v).nvram = s.nvram := rfl
@[simp] theorem State.setBc_bridge (s : State) (v : Word) : (s.setBc v).bridge = s.bridge := rfl
@[simp] theorem State.setBc_life (s : State) (v : Word) : (s.setBc v).life = s.life := rfl
@[simp] theorem State.setBc_draws (s : State) (v : Word) : (s.setBc v).draws = s.draws := rfl
@[simp] theorem State.setBc_cfg (s : State) (v : Word) : (s.setBc v).cfg = s.cfg := rfl
@[simp] theorem State.setBc_physRead (s : State) (v : Word) (w : Nat) : (s.setBc v).physRead w = s.physRead w := rfl
@[simp] theorem State.setBc_pageOf (s : State) (v : Word) (w : Word) : (s.setBc v).pageOf w = s.pageOf w := rfl
@[simp] theorem State.setBc_translate (s : State) (v : Word) (w : Word) : (s.setBc v).translate w = s.translate w := rfl
@[simp] theorem State.setBc_isRom (s : State) (v : Word) (w : Word) : (s.setBc v).isRom w = s.isRom w := rfl
@[simp] theorem State.setBc_readByte (s : State) (v : Word) (w : Word) : (s.setBc v).readByte w = s.readByte w := rfl
@[simp] theorem State.setBc_readWord (s : State) (v : Word) (w : Word) : (s.setBc v).readWord w = s.readWord w := rfl

@[simp] theorem State.setDe_cpu (s : State) (v : Word) : (s.setDe v).cpu = { s.cpu with d := hiByte v, e := loByte v } := rfl
@[simp] theorem State.setDe_pins (s : State) (v : Word) : (s.setDe v).pins = s.pins := rfl
@[simp] theorem State.setDe_mem (s : State) (v : Word) : (s.setDe v).mem = s.mem := rfl
@[simp] theorem State.setDe_uart (s : State) (v : Word) : (s.setDe v).uart = s.uart := rfl
@[simp] theorem State.setDe_disk (s : State) (v : Word) : (s.setDe v).disk = s.disk := rfl
@[simp] theorem State.setDe_nvram (s : State) (v : Word) : (s.setDe v).nvram = s.nvram := rfl
@[simp] theorem State.setDe_bridge (s : State) (v : Word) : (s.setDe v).bridge = s.bridge := rfl
@[simp] theorem State.setDe_life (s : State) (v : Word) : (s.setDe v).life = s.life := rfl
@[simp] theorem State.setDe_draws (s : State) (v : Word) : (s.setDe v).draws = s.draws := rfl
@[simp] theorem State.setDe_cfg (s : State) (v : Word) : (s.setDe v).cfg = s.cfg := rfl
@[simp] theorem State.setDe_physRead (s : State) (v : Word) (w : Nat) : (s.setDe v).physRead w = s.physRead w := rfl
@[simp] theorem State.setDe_pageOf (s : State) (v : Word) (w : Word) : (s.setDe v).pageOf w = s.pageOf w := rfl
@[simp] theorem State.setDe_translate (s : State) (v : Word) (w : Word) : (s.setDe v).translate w = s.translate w := rfl
@[simp] theorem State.setDe_isRom (s : State) (v : Word) (w : Word) : (s.setDe v).isRom w = s.isRom w := rfl
@[simp] theorem State.setDe_readByte (s : State) (v : Word) (w : Word) : (s.setDe v).readByte w = s.readByte w := rfl
@[simp] theorem State.setDe_readWord (s : State) (v : Word) (w : Word) : (s.setDe v).readWord w = s.readWord w := rfl

@[simp] theorem State.setHl_cpu (s : State) (v : Word) : (s.setHl v).cpu = { s.cpu with h := hiByte v, l := loByte v } := rfl
@[simp] theorem State.setHl_pins (s : State) (v : Word) : (s.setHl v).pins = s.pins := rfl
@[simp] theorem State.setHl_mem (s : State) (v : Word) : (s.setHl v).mem = s.mem := rfl
@[simp] theorem State.setHl_uart (s : State) (v : Word) : (s.setHl v).uart = s.uart := rfl
@[simp] theorem State.setHl_disk (s : State) (v : Word) : (s.setHl v).disk = s.disk := rfl
@[simp] theorem State.setHl_nvram (s : State) (v : Word) : (s.setHl v).nvram = s.nvram := rfl
@[simp] theorem State.setHl_bridge (s : State) (v : Word) : (s.setHl v).bridge = s.bridge := rfl
@[simp] theorem State.setHl_life (s : State) (v : Word) : (s.setHl v).life = s.life := rfl
@[simp] theorem State.setHl_draws (s : State) (v : Word) : (s.setHl v).draws = s.draws := rfl
@[simp] theorem State.setHl_cfg (s : State) (v : Word) : (s.setHl v).cfg = s.cfg := rfl
@[simp] theorem State.setHl_physRead (s : State) (v : Word) (w : Nat) : (s.setHl v).physRead w = s.physRead w := rfl
@[simp] theorem State.setHl_pageOf (s : State) (v : Word) (w : Word) : (s.setHl v).pageOf w = s.pageOf w := rfl
@[simp] theorem State.setHl_translate (s : State) (v : Word) (w : Word) : (s.setHl v).translate w = s.translate w := rfl
@[simp] theorem State.setHl_isRom (s : State) (v : Word) (w : Word) : (s.setHl v).isRom w = s.isRom w := rfl
@[simp] theorem State.setHl_readByte (s : State) (v : Word) (w : Word) : (s.setHl v).readByte w = s.readByte w := rfl
@[simp] theorem State.setHl_readWord (s : State) (v : Word) (w : Word) : (s.setHl v).readWord w = s.readWord w := rfl

@[simp] theorem State.setAf_cpu (s : State) (v : Word) : (s.setAf v).cpu =
    { s.cpu with a := hiByte v, f := Flags.ofByte (loByte v) } := rfl
@[simp] theorem State.setAf_pins (s : State) (v : Word) : (s.setAf v).pins = s.pins := rfl
@[simp] theorem State.setAf_mem (s : State) (v : Word) : (s.setAf v).mem = s.mem := rfl
@[simp] theorem State.setAf_uart (s : State) (v : Word) : (s.setAf v).uart = s.uart := rfl
@[simp] theorem State.setAf_disk (s : State) (v : Word) : (s.setAf v).disk = s.disk := rfl
@[simp] theorem State.setAf_nvram (s : State) (v : Word) : (s.setAf v).nvram = s.nvram := rfl
@[simp] theorem State.setAf_bridge (s : State) (v : Word) : (s.setAf v).bridge = s.bridge := rfl
@[simp] theorem State.setAf_life (s : State) (v : Word) : (s.setAf v).life = s.life := rfl
@[simp] theorem State.setAf_draws (s : State) (v : Word) : (s.setAf v).draws = s.draws := rfl
@[simp] theorem State.setAf_cfg (s : State) (v : Word) : (s.setAf v).cfg = s.cfg := rfl
@[simp] theorem State.setAf_physRead (s : State) (v : Word) (w : Nat) : (s.setAf v).physRead w = s.physRead w := rfl
@[simp] theorem State.setAf_pageOf (s : State) (v : Word) (w : Word) : (s.setAf v).pageOf w = s.pageOf w := rfl
@[simp] theorem State.setAf_translate (s : State) (v : Word) (w : Word) : (s.setAf v).translate w = s.translate w := rfl
@[simp] theorem State.setAf_isRom (s : State) (v : Word) (w : Word) : (s.setAf v).isRom w = s.isRom w := rfl
@[simp] theorem State.setAf_readByte (s : State) (v : Word) (w : Word) : (s.setAf v).readByte w = s.readByte w := rfl
@[simp] theorem State.setAf_readWord (s : State) (v : Word) (w : Word) : (s.setAf v).readWord w = s.readWord w := rfl

@[simp] theorem State.setIx_cpu (s : State) (v : Word) : (s.setIx v).cpu = { s.cpu with ix := v } := rfl
@[simp] theorem State.setIx_pins (s : State) (v : Word) : (s.setIx v).pins = s.pins := rfl
@[simp] theorem State.setIx_mem (s : State) (v : Word) : (s.setIx v).mem = s.mem := rfl
@[simp] theorem State.setIx_uart (s : State) (v : Word) : (s.setIx v).uart = s.uart := rfl
@[simp] theorem State.setIx_disk (s : State) (v : Word) : (s.setIx v).disk = s.disk := rfl
@[simp] theorem State.setIx_nvram (s : State) (v : Word) : (s.setIx v).nvram = s.nvram := rfl
@[simp] theorem State.setIx_bridge (s : State) (v : Word) : (s.setIx v).bridge = s.bridge := rfl
@[simp] theorem State.setIx_life (s : State) (v : Word) : (s.setIx v).life = s.life := rfl
@[simp] theorem State.setIx_draws (s : State) (v : Word) : (s.setIx v).draws = s.draws := rfl
@[simp] theorem State.setIx_cfg (s : State) (v : Word) : (s.setIx v).cfg = s.cfg := rfl
@[simp] theorem State.setIx_physRead (s : State) (v : Word) (w : Nat) : (s.setIx v).physRead w = s.physRead w := rfl
@[simp] theorem State.setIx_pageOf (s : State) (v : Word) (w : Word) : (s.setIx v).pageOf w = s.pageOf w := rfl
@[simp] theorem State.setIx_translate (s : State) (v : Word) (w : Word) : (s.setIx v).translate w = s.translate w := rfl
@[simp] theorem State.setIx_isRom (s : State) (v : Word) (w : Word) : (s.setIx v).isRom w = s.isRom w := rfl
@[simp] theorem State.setIx_readByte (s : State) (v : Word) (w : Word) : (s.setIx v).readByte w = s.readByte w := rfl
@[simp] theorem State.setIx_readWord (s : State) (v : Word) (w : Word) : (s.setIx v).readWord w = s.readWord w := rfl

@[simp] theorem State.setIy_cpu (s : State) (v : Word) : (s.setIy v).cpu = { s.cpu with iy := v } := rfl
@[simp] theorem State.setIy_pins (s : State) (v : Word) : (s.setIy v).pins = s.pins := rfl
@[simp] theorem State.setIy_mem (s : State) (v : Word) : (s.setIy v).mem = s.mem := rfl
@[simp] theorem State.setIy_uart (s : State) (v : Word) : (s.setIy v).uart = s.uart := rfl
@[simp] theorem State.setIy_disk (s : State) (v : Word) : (s.setIy v).disk = s.disk := rfl
@[simp] theorem State.setIy_nvram (s : State) (v : Word) : (s.setIy v).nvram = s.nvram := rfl
@[simp] theorem State.setIy_bridge (s : State) (v : Word) : (s.setIy v).bridge = s.bridge := rfl
@[simp] theorem State.setIy_life (s : State) (v : Word) : (s.setIy v).life = s.life := rfl
@[simp] theorem State.setIy_draws (s : State) (v : Word) : (s.setIy v).draws = s.draws := rfl
@[simp] theorem State.setIy_cfg (s : State) (v : Word) : (s.setIy v).cfg = s.cfg := rfl
@[simp] theorem State.setIy_physRead (s : State) (v : Word) (w : Nat) : (s.setIy v).physRead w = s.physRead w := rfl
@[simp] theorem State.setIy_pageOf (s : State) (v : Word) (w : Word) : (s.setIy v).pageOf w = s.pageOf w := rfl
@[simp] theorem State.setIy_translate (s : State) (v : Word) (w : Word) : (s.setIy v).translate w = s.translate w := rfl
@[simp] theorem State.setIy_isRom (s : State) (v : Word) (w : Word) : (s.setIy v).isRom w = s.isRom w := rfl
@[simp] theorem State.setIy_readByte (s : State) (v : Word) (w : Word) : (s.setIy v).readByte w = s.readByte w := rfl
@[simp] theorem State.setIy_readWord (s : State) (v : Word) (w : Word) : (s.setIy v).readWord w = s.readWord w := rfl

@[simp] theorem State.setFlags_cpu (s : State) (x : Fl) : (s.setFlags x).cpu =
    { s.cpu with
      f := {
        s := x.s, z := x.z, f5 := (Config.drawByte s.draws).getLsbD 5, h := x.h,
        f3 := (Config.drawByte s.draws).getLsbD 3, pv := x.pv, n := x.n, c := x.c } } := rfl
@[simp] theorem State.setFlags_pins (s : State) (x : Fl) : (s.setFlags x).pins = s.pins := rfl
@[simp] theorem State.setFlags_mem (s : State) (x : Fl) : (s.setFlags x).mem = s.mem := rfl
@[simp] theorem State.setFlags_uart (s : State) (x : Fl) : (s.setFlags x).uart = s.uart := rfl
@[simp] theorem State.setFlags_disk (s : State) (x : Fl) : (s.setFlags x).disk = s.disk := rfl
@[simp] theorem State.setFlags_nvram (s : State) (x : Fl) : (s.setFlags x).nvram = s.nvram := rfl
@[simp] theorem State.setFlags_bridge (s : State) (x : Fl) : (s.setFlags x).bridge = s.bridge := rfl
@[simp] theorem State.setFlags_life (s : State) (x : Fl) : (s.setFlags x).life = s.life := rfl
@[simp] theorem State.setFlags_draws (s : State) (x : Fl) : (s.setFlags x).draws = s.draws + 1 := rfl
@[simp] theorem State.setFlags_cfg (s : State) (x : Fl) : (s.setFlags x).cfg = s.cfg := rfl
@[simp] theorem State.setFlags_physRead (s : State) (x : Fl) (w : Nat) : (s.setFlags x).physRead w = s.physRead w := rfl
@[simp] theorem State.setFlags_pageOf (s : State) (x : Fl) (w : Word) : (s.setFlags x).pageOf w = s.pageOf w := rfl
@[simp] theorem State.setFlags_translate (s : State) (x : Fl) (w : Word) : (s.setFlags x).translate w = s.translate w := rfl
@[simp] theorem State.setFlags_isRom (s : State) (x : Fl) (w : Word) : (s.setFlags x).isRom w = s.isRom w := rfl
@[simp] theorem State.setFlags_readByte (s : State) (x : Fl) (w : Word) : (s.setFlags x).readByte w = s.readByte w := rfl
@[simp] theorem State.setFlags_readWord (s : State) (x : Fl) (w : Word) : (s.setFlags x).readWord w = s.readWord w := rfl

@[simp] theorem State.setFlagsBlockIo_cpu (s : State) (z : Bool) : (s.setFlagsBlockIo z).cpu =
    { s.cpu with
      f := {
        s  := (Config.drawByte s.draws).getLsbD 7
        z  := z
        f5 := (Config.drawByte s.draws).getLsbD 5
        h  := (Config.drawByte s.draws).getLsbD 4
        f3 := (Config.drawByte s.draws).getLsbD 3
        pv := (Config.drawByte s.draws).getLsbD 2
        n  := (Config.drawByte s.draws).getLsbD 1
        c  := (Config.drawByte s.draws).getLsbD 0 } } := rfl
@[simp] theorem State.setFlagsBlockIo_pins (s : State) (z : Bool) : (s.setFlagsBlockIo z).pins = s.pins := rfl
@[simp] theorem State.setFlagsBlockIo_mem (s : State) (z : Bool) : (s.setFlagsBlockIo z).mem = s.mem := rfl
@[simp] theorem State.setFlagsBlockIo_uart (s : State) (z : Bool) : (s.setFlagsBlockIo z).uart = s.uart := rfl
@[simp] theorem State.setFlagsBlockIo_disk (s : State) (z : Bool) : (s.setFlagsBlockIo z).disk = s.disk := rfl
@[simp] theorem State.setFlagsBlockIo_nvram (s : State) (z : Bool) : (s.setFlagsBlockIo z).nvram = s.nvram := rfl
@[simp] theorem State.setFlagsBlockIo_bridge (s : State) (z : Bool) : (s.setFlagsBlockIo z).bridge = s.bridge := rfl
@[simp] theorem State.setFlagsBlockIo_life (s : State) (z : Bool) : (s.setFlagsBlockIo z).life = s.life := rfl
@[simp] theorem State.setFlagsBlockIo_draws (s : State) (z : Bool) : (s.setFlagsBlockIo z).draws = s.draws + 1 := rfl
@[simp] theorem State.setFlagsBlockIo_cfg (s : State) (z : Bool) : (s.setFlagsBlockIo z).cfg = s.cfg := rfl
@[simp] theorem State.setFlagsBlockIo_physRead (s : State) (z : Bool) (w : Nat) : (s.setFlagsBlockIo z).physRead w = s.physRead w := rfl
@[simp] theorem State.setFlagsBlockIo_pageOf (s : State) (z : Bool) (w : Word) : (s.setFlagsBlockIo z).pageOf w = s.pageOf w := rfl
@[simp] theorem State.setFlagsBlockIo_translate (s : State) (z : Bool) (w : Word) : (s.setFlagsBlockIo z).translate w = s.translate w := rfl
@[simp] theorem State.setFlagsBlockIo_isRom (s : State) (z : Bool) (w : Word) : (s.setFlagsBlockIo z).isRom w = s.isRom w := rfl
@[simp] theorem State.setFlagsBlockIo_readByte (s : State) (z : Bool) (w : Word) : (s.setFlagsBlockIo z).readByte w = s.readByte w := rfl
@[simp] theorem State.setFlagsBlockIo_readWord (s : State) (z : Bool) (w : Word) : (s.setFlagsBlockIo z).readWord w = s.readWord w := rfl

@[simp] theorem State.refresh_cpu (s : State) (k : Nat) : (s.refresh k).cpu = { s.cpu with r := refreshed s.cpu.r k } := rfl
@[simp] theorem State.refresh_pins (s : State) (k : Nat) : (s.refresh k).pins = s.pins := rfl
@[simp] theorem State.refresh_mem (s : State) (k : Nat) : (s.refresh k).mem = s.mem := rfl
@[simp] theorem State.refresh_uart (s : State) (k : Nat) : (s.refresh k).uart = s.uart := rfl
@[simp] theorem State.refresh_disk (s : State) (k : Nat) : (s.refresh k).disk = s.disk := rfl
@[simp] theorem State.refresh_nvram (s : State) (k : Nat) : (s.refresh k).nvram = s.nvram := rfl
@[simp] theorem State.refresh_bridge (s : State) (k : Nat) : (s.refresh k).bridge = s.bridge := rfl
@[simp] theorem State.refresh_life (s : State) (k : Nat) : (s.refresh k).life = s.life := rfl
@[simp] theorem State.refresh_draws (s : State) (k : Nat) : (s.refresh k).draws = s.draws := rfl
@[simp] theorem State.refresh_cfg (s : State) (k : Nat) : (s.refresh k).cfg = s.cfg := rfl
@[simp] theorem State.refresh_physRead (s : State) (k : Nat) (w : Nat) : (s.refresh k).physRead w = s.physRead w := rfl
@[simp] theorem State.refresh_pageOf (s : State) (k : Nat) (w : Word) : (s.refresh k).pageOf w = s.pageOf w := rfl
@[simp] theorem State.refresh_translate (s : State) (k : Nat) (w : Word) : (s.refresh k).translate w = s.translate w := rfl
@[simp] theorem State.refresh_isRom (s : State) (k : Nat) (w : Word) : (s.refresh k).isRom w = s.isRom w := rfl
@[simp] theorem State.refresh_readByte (s : State) (k : Nat) (w : Word) : (s.refresh k).readByte w = s.readByte w := rfl
@[simp] theorem State.refresh_readWord (s : State) (k : Nat) (w : Word) : (s.refresh k).readWord w = s.readWord w := rfl

@[simp] theorem State.clearEiDelay_cpu (s : State) : (s.clearEiDelay).cpu = { s.cpu with eiDelay := false } := rfl
@[simp] theorem State.clearEiDelay_pins (s : State) : (s.clearEiDelay).pins = s.pins := rfl
@[simp] theorem State.clearEiDelay_mem (s : State) : (s.clearEiDelay).mem = s.mem := rfl
@[simp] theorem State.clearEiDelay_uart (s : State) : (s.clearEiDelay).uart = s.uart := rfl
@[simp] theorem State.clearEiDelay_disk (s : State) : (s.clearEiDelay).disk = s.disk := rfl
@[simp] theorem State.clearEiDelay_nvram (s : State) : (s.clearEiDelay).nvram = s.nvram := rfl
@[simp] theorem State.clearEiDelay_bridge (s : State) : (s.clearEiDelay).bridge = s.bridge := rfl
@[simp] theorem State.clearEiDelay_life (s : State) : (s.clearEiDelay).life = s.life := rfl
@[simp] theorem State.clearEiDelay_draws (s : State) : (s.clearEiDelay).draws = s.draws := rfl
@[simp] theorem State.clearEiDelay_cfg (s : State) : (s.clearEiDelay).cfg = s.cfg := rfl
@[simp] theorem State.clearEiDelay_physRead (s : State) (w : Nat) : (s.clearEiDelay).physRead w = s.physRead w := rfl
@[simp] theorem State.clearEiDelay_pageOf (s : State) (w : Word) : (s.clearEiDelay).pageOf w = s.pageOf w := rfl
@[simp] theorem State.clearEiDelay_translate (s : State) (w : Word) : (s.clearEiDelay).translate w = s.translate w := rfl
@[simp] theorem State.clearEiDelay_isRom (s : State) (w : Word) : (s.clearEiDelay).isRom w = s.isRom w := rfl
@[simp] theorem State.clearEiDelay_readByte (s : State) (w : Word) : (s.clearEiDelay).readByte w = s.readByte w := rfl
@[simp] theorem State.clearEiDelay_readWord (s : State) (w : Word) : (s.clearEiDelay).readWord w = s.readWord w := rfl

@[simp] theorem State.beginInstr_cpu (s : State) (k : Nat) : (s.beginInstr k).cpu =
    { s.cpu with eiDelay := false, r := refreshed s.cpu.r k } := rfl
@[simp] theorem State.beginInstr_pins (s : State) (k : Nat) : (s.beginInstr k).pins = s.pins := rfl
@[simp] theorem State.beginInstr_mem (s : State) (k : Nat) : (s.beginInstr k).mem = s.mem := rfl
@[simp] theorem State.beginInstr_uart (s : State) (k : Nat) : (s.beginInstr k).uart = s.uart := rfl
@[simp] theorem State.beginInstr_disk (s : State) (k : Nat) : (s.beginInstr k).disk = s.disk := rfl
@[simp] theorem State.beginInstr_nvram (s : State) (k : Nat) : (s.beginInstr k).nvram = s.nvram := rfl
@[simp] theorem State.beginInstr_bridge (s : State) (k : Nat) : (s.beginInstr k).bridge = s.bridge := rfl
@[simp] theorem State.beginInstr_life (s : State) (k : Nat) : (s.beginInstr k).life = s.life := rfl
@[simp] theorem State.beginInstr_draws (s : State) (k : Nat) : (s.beginInstr k).draws = s.draws := rfl
@[simp] theorem State.beginInstr_cfg (s : State) (k : Nat) : (s.beginInstr k).cfg = s.cfg := rfl
@[simp] theorem State.beginInstr_physRead (s : State) (k : Nat) (w : Nat) : (s.beginInstr k).physRead w = s.physRead w := rfl
@[simp] theorem State.beginInstr_pageOf (s : State) (k : Nat) (w : Word) : (s.beginInstr k).pageOf w = s.pageOf w := rfl
@[simp] theorem State.beginInstr_translate (s : State) (k : Nat) (w : Word) : (s.beginInstr k).translate w = s.translate w := rfl
@[simp] theorem State.beginInstr_isRom (s : State) (k : Nat) (w : Word) : (s.beginInstr k).isRom w = s.isRom w := rfl
@[simp] theorem State.beginInstr_readByte (s : State) (k : Nat) (w : Word) : (s.beginInstr k).readByte w = s.readByte w := rfl
@[simp] theorem State.beginInstr_readWord (s : State) (k : Nat) (w : Word) : (s.beginInstr k).readWord w = s.readWord w := rfl

@[simp] theorem State.haltedCycle_cpu (s : State) : (s.haltedCycle).cpu =
    { s.cpu with eiDelay := false, r := refreshed s.cpu.r 1 } := rfl
@[simp] theorem State.haltedCycle_pins (s : State) : (s.haltedCycle).pins = s.pins := rfl
@[simp] theorem State.haltedCycle_mem (s : State) : (s.haltedCycle).mem = s.mem := rfl
@[simp] theorem State.haltedCycle_uart (s : State) : (s.haltedCycle).uart = s.uart := rfl
@[simp] theorem State.haltedCycle_disk (s : State) : (s.haltedCycle).disk = s.disk := rfl
@[simp] theorem State.haltedCycle_nvram (s : State) : (s.haltedCycle).nvram = s.nvram := rfl
@[simp] theorem State.haltedCycle_bridge (s : State) : (s.haltedCycle).bridge = s.bridge := rfl
@[simp] theorem State.haltedCycle_life (s : State) : (s.haltedCycle).life = s.life := rfl
@[simp] theorem State.haltedCycle_draws (s : State) : (s.haltedCycle).draws = s.draws := rfl
@[simp] theorem State.haltedCycle_cfg (s : State) : (s.haltedCycle).cfg = s.cfg := rfl
@[simp] theorem State.haltedCycle_physRead (s : State) (w : Nat) : (s.haltedCycle).physRead w = s.physRead w := rfl
@[simp] theorem State.haltedCycle_pageOf (s : State) (w : Word) : (s.haltedCycle).pageOf w = s.pageOf w := rfl
@[simp] theorem State.haltedCycle_translate (s : State) (w : Word) : (s.haltedCycle).translate w = s.translate w := rfl
@[simp] theorem State.haltedCycle_isRom (s : State) (w : Word) : (s.haltedCycle).isRom w = s.isRom w := rfl
@[simp] theorem State.haltedCycle_readByte (s : State) (w : Word) : (s.haltedCycle).readByte w = s.readByte w := rfl
@[simp] theorem State.haltedCycle_readWord (s : State) (w : Word) : (s.haltedCycle).readWord w = s.readWord w := rfl

@[simp] theorem State.restoreIff_cpu (s : State) : (s.restoreIff).cpu = { s.cpu with iff1 := s.cpu.iff2 } := rfl
@[simp] theorem State.restoreIff_pins (s : State) : (s.restoreIff).pins = s.pins := rfl
@[simp] theorem State.restoreIff_mem (s : State) : (s.restoreIff).mem = s.mem := rfl
@[simp] theorem State.restoreIff_uart (s : State) : (s.restoreIff).uart = s.uart := rfl
@[simp] theorem State.restoreIff_disk (s : State) : (s.restoreIff).disk = s.disk := rfl
@[simp] theorem State.restoreIff_nvram (s : State) : (s.restoreIff).nvram = s.nvram := rfl
@[simp] theorem State.restoreIff_bridge (s : State) : (s.restoreIff).bridge = s.bridge := rfl
@[simp] theorem State.restoreIff_life (s : State) : (s.restoreIff).life = s.life := rfl
@[simp] theorem State.restoreIff_draws (s : State) : (s.restoreIff).draws = s.draws := rfl
@[simp] theorem State.restoreIff_cfg (s : State) : (s.restoreIff).cfg = s.cfg := rfl
@[simp] theorem State.restoreIff_physRead (s : State) (w : Nat) : (s.restoreIff).physRead w = s.physRead w := rfl
@[simp] theorem State.restoreIff_pageOf (s : State) (w : Word) : (s.restoreIff).pageOf w = s.pageOf w := rfl
@[simp] theorem State.restoreIff_translate (s : State) (w : Word) : (s.restoreIff).translate w = s.translate w := rfl
@[simp] theorem State.restoreIff_isRom (s : State) (w : Word) : (s.restoreIff).isRom w = s.isRom w := rfl
@[simp] theorem State.restoreIff_readByte (s : State) (w : Word) : (s.restoreIff).readByte w = s.readByte w := rfl
@[simp] theorem State.restoreIff_readWord (s : State) (w : Word) : (s.restoreIff).readWord w = s.readWord w := rfl

@[simp] theorem State.setReg_pins (s : State) (r : Reg8) (v : Byte) : (s.setReg r v).pins = s.pins := by
  cases r <;> rfl
@[simp] theorem State.setReg_mem (s : State) (r : Reg8) (v : Byte) : (s.setReg r v).mem = s.mem := by
  cases r <;> rfl
@[simp] theorem State.setReg_uart (s : State) (r : Reg8) (v : Byte) : (s.setReg r v).uart = s.uart := by
  cases r <;> rfl
@[simp] theorem State.setReg_disk (s : State) (r : Reg8) (v : Byte) : (s.setReg r v).disk = s.disk := by
  cases r <;> rfl
@[simp] theorem State.setReg_nvram (s : State) (r : Reg8) (v : Byte) : (s.setReg r v).nvram = s.nvram := by
  cases r <;> rfl
@[simp] theorem State.setReg_bridge (s : State) (r : Reg8) (v : Byte) : (s.setReg r v).bridge = s.bridge := by
  cases r <;> rfl
@[simp] theorem State.setReg_life (s : State) (r : Reg8) (v : Byte) : (s.setReg r v).life = s.life := by
  cases r <;> rfl
@[simp] theorem State.setReg_draws (s : State) (r : Reg8) (v : Byte) : (s.setReg r v).draws = s.draws := by
  cases r <;> rfl
@[simp] theorem State.setReg_cfg (s : State) (r : Reg8) (v : Byte) : (s.setReg r v).cfg = s.cfg := by
  cases r <;> rfl
@[simp] theorem State.setReg_physRead (s : State) (r : Reg8) (v : Byte) (w : Nat) : (s.setReg r v).physRead w = s.physRead w := by
  cases r <;> rfl
@[simp] theorem State.setReg_pageOf (s : State) (r : Reg8) (v : Byte) (w : Word) : (s.setReg r v).pageOf w = s.pageOf w := by
  cases r <;> rfl
@[simp] theorem State.setReg_translate (s : State) (r : Reg8) (v : Byte) (w : Word) : (s.setReg r v).translate w = s.translate w := by
  cases r <;> rfl
@[simp] theorem State.setReg_isRom (s : State) (r : Reg8) (v : Byte) (w : Word) : (s.setReg r v).isRom w = s.isRom w := by
  cases r <;> rfl
@[simp] theorem State.setReg_readByte (s : State) (r : Reg8) (v : Byte) (w : Word) : (s.setReg r v).readByte w = s.readByte w := by
  cases r <;> rfl
@[simp] theorem State.setReg_readWord (s : State) (r : Reg8) (v : Byte) (w : Word) : (s.setReg r v).readWord w = s.readWord w := by
  cases r <;> rfl

@[simp] theorem State.setPair_pins (s : State) (p : Pair) (v : Word) : (s.setPair p v).pins = s.pins := by
  cases p <;> rfl
@[simp] theorem State.setPair_mem (s : State) (p : Pair) (v : Word) : (s.setPair p v).mem = s.mem := by
  cases p <;> rfl
@[simp] theorem State.setPair_uart (s : State) (p : Pair) (v : Word) : (s.setPair p v).uart = s.uart := by
  cases p <;> rfl
@[simp] theorem State.setPair_disk (s : State) (p : Pair) (v : Word) : (s.setPair p v).disk = s.disk := by
  cases p <;> rfl
@[simp] theorem State.setPair_nvram (s : State) (p : Pair) (v : Word) : (s.setPair p v).nvram = s.nvram := by
  cases p <;> rfl
@[simp] theorem State.setPair_bridge (s : State) (p : Pair) (v : Word) : (s.setPair p v).bridge = s.bridge := by
  cases p <;> rfl
@[simp] theorem State.setPair_life (s : State) (p : Pair) (v : Word) : (s.setPair p v).life = s.life := by
  cases p <;> rfl
@[simp] theorem State.setPair_draws (s : State) (p : Pair) (v : Word) : (s.setPair p v).draws = s.draws := by
  cases p <;> rfl
@[simp] theorem State.setPair_cfg (s : State) (p : Pair) (v : Word) : (s.setPair p v).cfg = s.cfg := by
  cases p <;> rfl
@[simp] theorem State.setPair_physRead (s : State) (p : Pair) (v : Word) (w : Nat) : (s.setPair p v).physRead w = s.physRead w := by
  cases p <;> rfl
@[simp] theorem State.setPair_pageOf (s : State) (p : Pair) (v : Word) (w : Word) : (s.setPair p v).pageOf w = s.pageOf w := by
  cases p <;> rfl
@[simp] theorem State.setPair_translate (s : State) (p : Pair) (v : Word) (w : Word) : (s.setPair p v).translate w = s.translate w := by
  cases p <;> rfl
@[simp] theorem State.setPair_isRom (s : State) (p : Pair) (v : Word) (w : Word) : (s.setPair p v).isRom w = s.isRom w := by
  cases p <;> rfl
@[simp] theorem State.setPair_readByte (s : State) (p : Pair) (v : Word) (w : Word) : (s.setPair p v).readByte w = s.readByte w := by
  cases p <;> rfl
@[simp] theorem State.setPair_readWord (s : State) (p : Pair) (v : Word) (w : Word) : (s.setPair p v).readWord w = s.readWord w := by
  cases p <;> rfl

@[simp] theorem State.setPairQ_pins (s : State) (p : PairQ) (v : Word) : (s.setPairQ p v).pins = s.pins := by
  cases p <;> rfl
@[simp] theorem State.setPairQ_mem (s : State) (p : PairQ) (v : Word) : (s.setPairQ p v).mem = s.mem := by
  cases p <;> rfl
@[simp] theorem State.setPairQ_uart (s : State) (p : PairQ) (v : Word) : (s.setPairQ p v).uart = s.uart := by
  cases p <;> rfl
@[simp] theorem State.setPairQ_disk (s : State) (p : PairQ) (v : Word) : (s.setPairQ p v).disk = s.disk := by
  cases p <;> rfl
@[simp] theorem State.setPairQ_nvram (s : State) (p : PairQ) (v : Word) : (s.setPairQ p v).nvram = s.nvram := by
  cases p <;> rfl
@[simp] theorem State.setPairQ_bridge (s : State) (p : PairQ) (v : Word) : (s.setPairQ p v).bridge = s.bridge := by
  cases p <;> rfl
@[simp] theorem State.setPairQ_life (s : State) (p : PairQ) (v : Word) : (s.setPairQ p v).life = s.life := by
  cases p <;> rfl
@[simp] theorem State.setPairQ_draws (s : State) (p : PairQ) (v : Word) : (s.setPairQ p v).draws = s.draws := by
  cases p <;> rfl
@[simp] theorem State.setPairQ_cfg (s : State) (p : PairQ) (v : Word) : (s.setPairQ p v).cfg = s.cfg := by
  cases p <;> rfl
@[simp] theorem State.setPairQ_physRead (s : State) (p : PairQ) (v : Word) (w : Nat) : (s.setPairQ p v).physRead w = s.physRead w := by
  cases p <;> rfl
@[simp] theorem State.setPairQ_pageOf (s : State) (p : PairQ) (v : Word) (w : Word) : (s.setPairQ p v).pageOf w = s.pageOf w := by
  cases p <;> rfl
@[simp] theorem State.setPairQ_translate (s : State) (p : PairQ) (v : Word) (w : Word) : (s.setPairQ p v).translate w = s.translate w := by
  cases p <;> rfl
@[simp] theorem State.setPairQ_isRom (s : State) (p : PairQ) (v : Word) (w : Word) : (s.setPairQ p v).isRom w = s.isRom w := by
  cases p <;> rfl
@[simp] theorem State.setPairQ_readByte (s : State) (p : PairQ) (v : Word) (w : Word) : (s.setPairQ p v).readByte w = s.readByte w := by
  cases p <;> rfl
@[simp] theorem State.setPairQ_readWord (s : State) (p : PairQ) (v : Word) (w : Word) : (s.setPairQ p v).readWord w = s.readWord w := by
  cases p <;> rfl

@[simp] theorem State.physWrite_cpu (s : State) (k : Nat) (v : Byte) : (s.physWrite k v).cpu = s.cpu := rfl
@[simp] theorem State.physWrite_pins (s : State) (k : Nat) (v : Byte) : (s.physWrite k v).pins = s.pins := rfl
@[simp] theorem State.physWrite_mem (s : State) (k : Nat) (v : Byte) : (s.physWrite k v).mem =
    { s.mem with bytes := Memory.insert s.mem.bytes k v } := rfl
@[simp] theorem State.physWrite_uart (s : State) (k : Nat) (v : Byte) : (s.physWrite k v).uart = s.uart := rfl
@[simp] theorem State.physWrite_disk (s : State) (k : Nat) (v : Byte) : (s.physWrite k v).disk = s.disk := rfl
@[simp] theorem State.physWrite_nvram (s : State) (k : Nat) (v : Byte) : (s.physWrite k v).nvram = s.nvram := rfl
@[simp] theorem State.physWrite_bridge (s : State) (k : Nat) (v : Byte) : (s.physWrite k v).bridge = s.bridge := rfl
@[simp] theorem State.physWrite_life (s : State) (k : Nat) (v : Byte) : (s.physWrite k v).life = s.life := rfl
@[simp] theorem State.physWrite_draws (s : State) (k : Nat) (v : Byte) : (s.physWrite k v).draws = s.draws := rfl
@[simp] theorem State.physWrite_cfg (s : State) (k : Nat) (v : Byte) : (s.physWrite k v).cfg = s.cfg := rfl
@[simp] theorem State.physWrite_pageOf (s : State) (k : Nat) (v : Byte) (a : Word) :
    (s.physWrite k v).pageOf a = s.pageOf a := rfl
@[simp] theorem State.physWrite_translate (s : State) (k : Nat) (v : Byte) (a : Word) :
    (s.physWrite k v).translate a = s.translate a := rfl
@[simp] theorem State.physWrite_isRom (s : State) (k : Nat) (v : Byte) (a : Word) :
    (s.physWrite k v).isRom a = s.isRom a := rfl

@[simp] theorem State.writeByte_cpu (s : State) (a : Word) (v : Byte) : (s.writeByte a v).cpu = s.cpu := by
  unfold State.writeByte; split <;> rfl
@[simp] theorem State.writeByte_pins (s : State) (a : Word) (v : Byte) : (s.writeByte a v).pins = s.pins := by
  unfold State.writeByte; split <;> rfl
@[simp] theorem State.writeByte_uart (s : State) (a : Word) (v : Byte) : (s.writeByte a v).uart = s.uart := by
  unfold State.writeByte; split <;> rfl
@[simp] theorem State.writeByte_disk (s : State) (a : Word) (v : Byte) : (s.writeByte a v).disk = s.disk := by
  unfold State.writeByte; split <;> rfl
@[simp] theorem State.writeByte_nvram (s : State) (a : Word) (v : Byte) : (s.writeByte a v).nvram = s.nvram := by
  unfold State.writeByte; split <;> rfl
@[simp] theorem State.writeByte_bridge (s : State) (a : Word) (v : Byte) : (s.writeByte a v).bridge = s.bridge := by
  unfold State.writeByte; split <;> rfl
@[simp] theorem State.writeByte_life (s : State) (a : Word) (v : Byte) : (s.writeByte a v).life = s.life := by
  unfold State.writeByte; split <;> rfl
@[simp] theorem State.writeByte_draws (s : State) (a : Word) (v : Byte) : (s.writeByte a v).draws = s.draws := by
  unfold State.writeByte; split <;> rfl
@[simp] theorem State.writeByte_cfg (s : State) (a : Word) (v : Byte) : (s.writeByte a v).cfg = s.cfg := by
  unfold State.writeByte; split <;> rfl
@[simp] theorem State.writeByte_map (s : State) (a : Word) (v : Byte) :
    (s.writeByte a v).mem.map = s.mem.map := by
  unfold State.writeByte; split <;> rfl
@[simp] theorem State.writeByte_epoch (s : State) (a : Word) (v : Byte) :
    (s.writeByte a v).mem.epoch = s.mem.epoch := by
  unfold State.writeByte; split <;> rfl
@[simp] theorem State.writeByte_romLoaded (s : State) (a : Word) (v : Byte) :
    (s.writeByte a v).mem.romLoaded = s.mem.romLoaded := by
  unfold State.writeByte; split <;> rfl
@[simp] theorem State.writeByte_pageOf (s : State) (a : Word) (v : Byte) (b : Word) :
    (s.writeByte a v).pageOf b = s.pageOf b := by
  unfold State.writeByte; split <;> rfl
@[simp] theorem State.writeByte_translate (s : State) (a : Word) (v : Byte) (b : Word) :
    (s.writeByte a v).translate b = s.translate b := by
  unfold State.writeByte; split <;> rfl
@[simp] theorem State.writeByte_isRom (s : State) (a : Word) (v : Byte) (b : Word) :
    (s.writeByte a v).isRom b = s.isRom b := by
  unfold State.writeByte; split <;> rfl

end Sys2Proof.Machine
end

