-- ==== Sys2Proof/Laws/Memory.lean ====
section
/-! SUPPORT. Memory: a read after a write, the canonical form, and the bytes held after a list of stores. -/

namespace Sys2Proof.Machine

/-! ### The list -/

theorem Memory.lookup_insert_same (m : List Host.Cell) (k : Nat) (v : Byte) :
    Memory.lookup (Memory.insert m k v) k = some v := by
  induction m with
  | nil => simp [Memory.insert, Memory.lookup]
  | cons x m ih =>
    obtain ⟨a, w⟩ := x
    unfold Memory.insert
    split_ifs with h1 h2
    · simp [Memory.lookup]
    · simp [Memory.lookup]
    · simp [Memory.lookup, Ne.symm h2, ih]

theorem Memory.lookup_insert_other (m : List Host.Cell) {k j : Nat} (v : Byte) (hj : j ≠ k) :
    Memory.lookup (Memory.insert m k v) j = Memory.lookup m j := by
  induction m with
  | nil => simp [Memory.insert, Memory.lookup, Ne.symm hj]
  | cons x m ih =>
    obtain ⟨a, w⟩ := x
    unfold Memory.insert
    split_ifs with h1 h2
    · simp [Memory.lookup, Ne.symm hj]
    · subst h2; simp [Memory.lookup, Ne.symm hj]
    · simp only [Memory.lookup, ih]

theorem Memory.mem_insert {m : List Host.Cell} {k : Nat} {v : Byte} {x : Host.Cell} (h : x ∈ Memory.insert m k v) :
    x = (k, v) ∨ x ∈ m := by
  induction m with
  | nil => simpa [Memory.insert] using h
  | cons y m ih =>
    obtain ⟨a, w⟩ := y
    unfold Memory.insert at h
    split_ifs at h with h1 h2
    · simpa using h
    · rcases List.mem_cons.1 h with h | h
      · exact .inl h
      · exact .inr (List.mem_cons_of_mem _ h)
    · rcases List.mem_cons.1 h with h | h
      · exact .inr (h ▸ List.mem_cons_self)
      · exact (ih h).imp_right (List.mem_cons_of_mem _)

/-- Every write keeps the canonical form. -/
theorem Memory.wf_insert {m : List Host.Cell} (hm : Memory.wf m) (k : Nat) (v : Byte) :
    Memory.wf (Memory.insert m k v) := by
  induction m with
  | nil => simp [Memory.insert, Memory.wf]
  | cons x m ih =>
    obtain ⟨a, w⟩ := x
    obtain ⟨hx, hm'⟩ := List.pairwise_cons.1 hm
    unfold Memory.insert
    split_ifs with h1 h2
    · refine List.pairwise_cons.2 ⟨fun y hy => ?_, hm⟩
      rcases List.mem_cons.1 hy with rfl | hy
      · exact h1
      · exact h1.trans (hx y hy)
    · subst h2
      exact List.pairwise_cons.2 ⟨hx, hm'⟩
    · refine List.pairwise_cons.2 ⟨fun y hy => ?_, ih hm'⟩
      rcases Memory.mem_insert hy with rfl | hy
      · simp only; omega
      · exact hx y hy

/-! ### Physical and logical bytes -/

@[simp] theorem State.physRead_physWrite_same (s : State) (k : Nat) (v : Byte) :
    (s.physWrite k v).physRead k = v := by
  simp [State.physRead, Memory.lookup_insert_same]

theorem State.physRead_physWrite_other (s : State) {k j : Nat} (v : Byte) (h : j ≠ k) :
    (s.physWrite k v).physRead j = s.physRead j := by
  change (Memory.lookup (Memory.insert s.mem.bytes k v) j).getD (s.unlistedByte j) = _
  rw [Memory.lookup_insert_other _ _ h]
  rfl

/-- What a store does to a physical byte. -/
theorem State.physRead_writeByte (s : State) (a : Word) (v : Byte) (pa : Nat) :
    (s.writeByte a v).physRead pa =
      if s.isRom a = false ∧ s.translate a = pa then v else s.physRead pa := by
  unfold State.writeByte
  cases hr : s.isRom a
  · by_cases h : s.translate a = pa
    · subst h; simp
    · simp [h, State.physRead_physWrite_other _ _ (Ne.symm h)]
  · simp

theorem State.readByte_eq (s : State) (a : Word) : s.readByte a = s.physRead (s.translate a) := rfl

theorem State.writeByte_of_isRom (s : State) (a : Word) (v : Byte) (h : s.isRom a = true) : s.writeByte a v = s := by
  simp [State.writeByte, h]

theorem State.readByte_writeByte_same (s : State) (a : Word) (v : Byte) (h : s.isRom a = false) :
    (s.writeByte a v).readByte a = v := by
  simp [State.readByte_eq, State.physRead_writeByte, h]

theorem State.readByte_writeByte_other (s : State) {a b : Word} (v : Byte) (h : s.translate a ≠ s.translate b) :
    (s.writeByte a v).readByte b = s.readByte b := by
  simp [State.readByte_eq, State.physRead_writeByte, h]

theorem State.writeByte_wf (s : State) (a : Word) (v : Byte) (h : Memory.wf s.mem.bytes) :
    Memory.wf (s.writeByte a v).mem.bytes := by
  unfold State.writeByte
  split
  · exact h
  · exact Memory.wf_insert h _ _

theorem State.reset_wf : Memory.wf State.reset.mem.bytes := by decide

/-! ### Lists of stores -/

theorem heldAfter_nil (s : State) (pa : Nat) : heldAfter s [] pa = s.physRead pa := rfl

theorem heldAfter_append (s : State) (l : List (Word × Byte)) (a : Word) (v : Byte) (pa : Nat) :
    heldAfter s (l ++ [(a, v)]) pa = if s.isRom a = false ∧ s.translate a = pa then v else heldAfter s l pa := by
  simp [heldAfter]

/-- Memory depends on the memory unit and the configuration alone. -/
theorem MemoryAfter.of_eq {s t u : State} {l : List (Word × Byte)} (h : MemoryAfter s t l) (hm : u.mem = t.mem)
    (hc : u.cfg = t.cfg) : MemoryAfter s u l := by
  obtain ⟨h1, h2, h3, h4, h5⟩ := h
  have hp : ∀ pa, u.physRead pa = t.physRead pa := fun pa => by simp [State.physRead, State.unlistedByte, hm, hc]
  have hr : ∀ a, u.readByte a = t.readByte a := fun a => by
    simp [State.readByte, State.translate, State.pageOf, hp, hm, hc]
  exact ⟨hm ▸ h1, hm ▸ h2, hm ▸ h3, fun pa => (hp pa).trans (h4 pa), fun a => (hr a).trans (h5 a)⟩

theorem MemoryAfter.refl (s : State) : MemoryAfter s s [] := ⟨rfl, rfl, rfl, fun _ => rfl, fun _ => rfl⟩

/-- Nothing stored: same memory unit and configuration. -/
theorem MemoryAfter.none {s t : State} (hm : t.mem = s.mem) (hc : t.cfg = s.cfg) : MemoryAfter s t [] :=
  (MemoryAfter.refl s).of_eq hm hc

/-- One more store. -/
theorem MemoryAfter.store {s t : State} {l : List (Word × Byte)} (h : MemoryAfter s t l) (hc : t.cfg = s.cfg)
    (a : Word) (v : Byte) : MemoryAfter s (t.writeByte a v) (l ++ [(a, v)]) := by
  obtain ⟨h1, h2, h3, h4, h5⟩ := h
  have hp : ∀ b, t.pageOf b = s.pageOf b := fun b => by simp [State.pageOf, h1, hc]
  have ht : ∀ b, t.translate b = s.translate b := fun b => by simp [State.translate, hp, hc]
  have hr : ∀ b, t.isRom b = s.isRom b := fun b => by simp [State.isRom, hp, hc]
  have key : ∀ pa, (t.writeByte a v).physRead pa = heldAfter s (l ++ [(a, v)]) pa := fun pa => by
    rw [State.physRead_writeByte, heldAfter_append, hr, ht, h4]
  exact ⟨by simpa using h1, by simpa using h2, by simpa using h3, key, fun b => by
    rw [State.readByte_eq, key, State.writeByte_translate, ht]⟩

end Sys2Proof.Machine
end

