-- ==== Sys2Proof/Laws/Ports.lean ====
section
/-! SUPPORT. What an I/O access leaves alone, and that the port table gives each port of a well-formed configuration its
own register. -/

namespace Sys2Proof.Machine

/-- A port read changes the UART and the disk controller at most. -/
theorem State.ioRead_frame (s : State) (a : Word) :
    ∃ u d, (s.ioRead a).2 = { s with uart := u, disk := d } := by
  unfold State.ioRead
  split <;> exact ⟨_, _, rfl⟩

/-- A port write changes the UART, the disk controller, the NVRAM and the bank map at most. -/
theorem State.ioWrite_frame (s : State) (a : Word) (v : Byte) :
    ∃ u d n m, s.ioWrite a v = { s with uart := u, disk := d, nvram := n, mem := { s.mem with map := m } } := by
  unfold State.ioWrite
  split <;> exact ⟨_, _, _, _, rfl⟩

@[simp] theorem State.ioRead_cpu (s : State) (a : Word) : (s.ioRead a).2.cpu = s.cpu := by
  obtain ⟨u, d, h⟩ := s.ioRead_frame a; rw [h]

@[simp] theorem State.ioRead_mem (s : State) (a : Word) : (s.ioRead a).2.mem = s.mem := by
  obtain ⟨u, d, h⟩ := s.ioRead_frame a; rw [h]

@[simp] theorem State.ioRead_pins (s : State) (a : Word) : (s.ioRead a).2.pins = s.pins := by
  obtain ⟨u, d, h⟩ := s.ioRead_frame a; rw [h]

@[simp] theorem State.ioRead_nvram (s : State) (a : Word) : (s.ioRead a).2.nvram = s.nvram := by
  obtain ⟨u, d, h⟩ := s.ioRead_frame a; rw [h]

@[simp] theorem State.ioRead_bridge (s : State) (a : Word) : (s.ioRead a).2.bridge = s.bridge := by
  obtain ⟨u, d, h⟩ := s.ioRead_frame a; rw [h]

@[simp] theorem State.ioRead_life (s : State) (a : Word) : (s.ioRead a).2.life = s.life := by
  obtain ⟨u, d, h⟩ := s.ioRead_frame a; rw [h]

@[simp] theorem State.ioRead_draws (s : State) (a : Word) : (s.ioRead a).2.draws = s.draws := by
  obtain ⟨u, d, h⟩ := s.ioRead_frame a; rw [h]

@[simp] theorem State.ioRead_cfg (s : State) (a : Word) : (s.ioRead a).2.cfg = s.cfg := by
  obtain ⟨u, d, h⟩ := s.ioRead_frame a; rw [h]

@[simp] theorem State.ioWrite_cpu (s : State) (a : Word) (v : Byte) : (s.ioWrite a v).cpu = s.cpu := by
  obtain ⟨u, d, n, m, h⟩ := s.ioWrite_frame a v; rw [h]

@[simp] theorem State.ioWrite_bytes (s : State) (a : Word) (v : Byte) : (s.ioWrite a v).mem.bytes = s.mem.bytes := by
  obtain ⟨u, d, n, m, h⟩ := s.ioWrite_frame a v; rw [h]

@[simp] theorem State.ioWrite_epoch (s : State) (a : Word) (v : Byte) : (s.ioWrite a v).mem.epoch = s.mem.epoch := by
  obtain ⟨u, d, n, m, h⟩ := s.ioWrite_frame a v; rw [h]

@[simp] theorem State.ioWrite_romLoaded (s : State) (a : Word) (v : Byte) :
    (s.ioWrite a v).mem.romLoaded = s.mem.romLoaded := by
  obtain ⟨u, d, n, m, h⟩ := s.ioWrite_frame a v; rw [h]

@[simp] theorem State.ioWrite_pins (s : State) (a : Word) (v : Byte) : (s.ioWrite a v).pins = s.pins := by
  obtain ⟨u, d, n, m, h⟩ := s.ioWrite_frame a v; rw [h]

@[simp] theorem State.ioWrite_bridge (s : State) (a : Word) (v : Byte) : (s.ioWrite a v).bridge = s.bridge := by
  obtain ⟨u, d, n, m, h⟩ := s.ioWrite_frame a v; rw [h]

@[simp] theorem State.ioWrite_life (s : State) (a : Word) (v : Byte) : (s.ioWrite a v).life = s.life := by
  obtain ⟨u, d, n, m, h⟩ := s.ioWrite_frame a v; rw [h]

@[simp] theorem State.ioWrite_draws (s : State) (a : Word) (v : Byte) : (s.ioWrite a v).draws = s.draws := by
  obtain ⟨u, d, n, m, h⟩ := s.ioWrite_frame a v; rw [h]

@[simp] theorem State.ioWrite_cfg (s : State) (a : Word) (v : Byte) : (s.ioWrite a v).cfg = s.cfg := by
  obtain ⟨u, d, n, m, h⟩ := s.ioWrite_frame a v; rw [h]

/-- A port of the list claims an entry of `noRepeat`'s list once. -/
theorem noRepeat_cons {p : Byte} {ps : List Byte} (h : noRepeat (p :: ps) = true) : p ∉ ps ∧ noRepeat ps = true := by
  simpa [noRepeat] using h

/-- No port is claimed twice exactly when the list of claims has no duplicates. -/
theorem noRepeat_iff (ps : List Byte) : noRepeat ps = true ↔ ps.Nodup := by
  induction ps with
  | nil => simp [noRepeat]
  | cons p ps ih => simp [noRepeat, ih]

theorem bankWindow_some {l : List (Option Byte)} {p : Byte} {w k : Nat} (h : bankWindow l p w = some k) :
    w ≤ k ∧ l[k - w]? = some (some p) := by
  induction l generalizing w with
  | nil => simp [bankWindow] at h
  | cons q qs ih =>
    unfold bankWindow at h
    split_ifs at h with hq
    · simp only [Option.some.injEq] at h; subst h; simp [hq]
    · obtain ⟨h1, h2⟩ := ih h
      refine ⟨by omega, ?_⟩
      rw [show k - w = (k - (w + 1)) + 1 by omega]
      simpa using h2

/-! ### The port table of a well-formed configuration -/

theorem Config.claimedPorts_nodup {c : Config} (h : c.wellFormed = true) : c.claimedPorts.Nodup := by
  rw [← noRepeat_iff]
  simp only [Config.wellFormed, Config.portsWellFormed, Bool.and_eq_true] at h
  exact h.1.2.2

/-- The twelve device ports differ from each other and from every bank port. -/
theorem Config.device_ports {c : Config} (h : c.wellFormed = true) :
    [c.uartData, c.uartStatus, c.diskBase, c.diskBase + 1#8, c.diskBase + 2#8, c.diskBase + 3#8, c.diskBase + 4#8,
      c.diskBase + 5#8, c.diskBase + 6#8, c.diskBase + 7#8, c.nvAddr, c.nvData].Nodup ∧
    ∀ p, some p ∈ c.bankPort →
      p ∉ [c.uartData, c.uartStatus, c.diskBase, c.diskBase + 1#8, c.diskBase + 2#8, c.diskBase + 3#8,
        c.diskBase + 4#8, c.diskBase + 5#8, c.diskBase + 6#8, c.diskBase + 7#8, c.nvAddr, c.nvData] := by
  have hn := Config.claimedPorts_nodup h
  obtain ⟨_, h2, h3⟩ := List.nodup_append.1 hn
  refine ⟨h2, fun p hp hq => ?_⟩
  exact h3 p (List.mem_filterMap.2 ⟨some p, hp, rfl⟩) p hq rfl

theorem portReg_uartData (c : Config) : portReg c c.uartData = .uartData := by simp [portReg]

theorem portReg_uartStatus {c : Config} (h : c.wellFormed = true) : portReg c c.uartStatus = .uartStatus := by
  have := (Config.device_ports h).1
  simp only [List.nodup_cons, List.mem_cons, not_or] at this
  simp [portReg, Ne.symm this.1.1]

theorem portReg_dkUnit {c : Config} (h : c.wellFormed = true) : portReg c c.diskBase = .dkUnit := by
  have := (Config.device_ports h).1
  simp only [List.nodup_cons, List.mem_cons, not_or] at this
  obtain ⟨h0, h1, -⟩ := this
  simp [portReg, Ne.symm h0.2.1, Ne.symm h1.1]

theorem portReg_dkLba {c : Config} (h : c.wellFormed = true) (k : Fin 4) :
    portReg c (c.diskBase + BitVec.ofNat 8 (k.val + 1)) = .dkLba k := by
  have := (Config.device_ports h).1
  simp only [List.nodup_cons, List.mem_cons, not_or] at this
  obtain ⟨h0, h1, -⟩ := this
  fin_cases k
  · simp [portReg, Ne.symm h0.2.2.1, Ne.symm h1.2.1]
  · simp [portReg, Ne.symm h0.2.2.2.1, Ne.symm h1.2.2.1]
  · simp [portReg, Ne.symm h0.2.2.2.2.1, Ne.symm h1.2.2.2.1]
  · simp [portReg, Ne.symm h0.2.2.2.2.2.1, Ne.symm h1.2.2.2.2.1]

theorem portReg_dkCommand {c : Config} (h : c.wellFormed = true) : portReg c (c.diskBase + 5#8) = .dkCommand := by
  have := (Config.device_ports h).1
  simp only [List.nodup_cons, List.mem_cons, not_or] at this
  obtain ⟨h0, h1, -⟩ := this
  simp [portReg, Ne.symm h0.2.2.2.2.2.2.1, Ne.symm h1.2.2.2.2.2.1]

theorem portReg_dkData {c : Config} (h : c.wellFormed = true) : portReg c (c.diskBase + 6#8) = .dkData := by
  have := (Config.device_ports h).1
  simp only [List.nodup_cons, List.mem_cons, not_or] at this
  obtain ⟨h0, h1, -⟩ := this
  simp [portReg, Ne.symm h0.2.2.2.2.2.2.2.1, Ne.symm h1.2.2.2.2.2.2.1]

theorem portReg_dkSlices {c : Config} (h : c.wellFormed = true) : portReg c (c.diskBase + 7#8) = .dkSlices := by
  have := (Config.device_ports h).1
  simp only [List.nodup_cons, List.mem_cons, not_or] at this
  obtain ⟨h0, h1, -⟩ := this
  simp [portReg, Ne.symm h0.2.2.2.2.2.2.2.2.1, Ne.symm h1.2.2.2.2.2.2.2.1]

theorem portReg_of_not_device {c : Config} {p : Byte}
    (hp : p ∉ [c.uartData, c.uartStatus, c.diskBase, c.diskBase + 1#8, c.diskBase + 2#8, c.diskBase + 3#8,
      c.diskBase + 4#8, c.diskBase + 5#8, c.diskBase + 6#8, c.diskBase + 7#8, c.nvAddr, c.nvData]) :
    portReg c p =
      match bankWindow c.bankPort p 0 with
      | some w => .bank w
      | none => .unmapped := by
  simp only [List.mem_cons, List.not_mem_nil, or_false, not_or] at hp
  cases hb : bankWindow c.bankPort p 0 <;> simp [portReg, hp, hb]

theorem portReg_nvAddr {c : Config} (h : c.wellFormed = true) : portReg c c.nvAddr = .nvAddr := by
  have := (Config.device_ports h).1
  simp only [List.nodup_cons, List.mem_cons, not_or] at this
  obtain ⟨h0, h1, h2, h3, h4, h5, h6, h7, h8, h9, -⟩ := this
  simp [portReg, Ne.symm h0.2.2.2.2.2.2.2.2.2.1, Ne.symm h1.2.2.2.2.2.2.2.2.1, Ne.symm h2.2.2.2.2.2.2.2.1,
    Ne.symm h3.2.2.2.2.2.2.1, Ne.symm h4.2.2.2.2.2.1, Ne.symm h5.2.2.2.2.1, Ne.symm h6.2.2.2.1, Ne.symm h7.2.2.1,
    Ne.symm h8.2.1, Ne.symm h9.1]

theorem portReg_nvData {c : Config} (h : c.wellFormed = true) : portReg c c.nvData = .nvData := by
  have := (Config.device_ports h).1
  simp only [List.nodup_cons, List.mem_cons, not_or] at this
  obtain ⟨h0, h1, h2, h3, h4, h5, h6, h7, h8, h9, h10, -⟩ := this
  simp [portReg, Ne.symm h0.2.2.2.2.2.2.2.2.2.2.1, Ne.symm h1.2.2.2.2.2.2.2.2.2.1, Ne.symm h2.2.2.2.2.2.2.2.2.1,
    Ne.symm h3.2.2.2.2.2.2.2.1, Ne.symm h4.2.2.2.2.2.2.1, Ne.symm h5.2.2.2.2.2.1, Ne.symm h6.2.2.2.2.1,
    Ne.symm h7.2.2.2.1, Ne.symm h8.2.2.1, Ne.symm h9.2.1, Ne.symm h10.1]

theorem bankWindow_none {l : List (Option Byte)} {p : Byte} {w : Nat} (h : some p ∉ l) : bankWindow l p w = none := by
  induction l generalizing w with
  | nil => rfl
  | cons q qs ih =>
    simp only [List.mem_cons, not_or] at h
    simp [bankWindow, Ne.symm h.1, ih h.2]

/-- In a list of bank ports that claims no port twice, the window found is the only one. -/
theorem bankWindow_eq {l : List (Option Byte)} {p : Byte} {k : Nat} (w : Nat) (hn : (l.filterMap id).Nodup)
    (h : l[k]? = some (some p)) : bankWindow l p w = some (w + k) := by
  induction l generalizing w k with
  | nil => simp at h
  | cons q qs ih =>
    cases k with
    | zero => simp at h; simp [bankWindow, h]
    | succ k =>
      simp only [List.getElem?_cons_succ] at h
      have hmem : some p ∈ qs := List.mem_of_getElem? h
      cases q with
      | none =>
        have := ih (w + 1) (by simpa using hn) h
        simp [bankWindow, this]; omega
      | some q =>
        simp only [List.filterMap_cons, id, List.nodup_cons] at hn
        have hq : q ≠ p := by
          rintro rfl
          exact hn.1 (List.mem_filterMap.2 ⟨some q, hmem, rfl⟩)
        have := ih (w + 1) hn.2 h
        simp [bankWindow, hq, this]; omega

theorem portReg_bank {c : Config} (h : c.wellFormed = true) {p : Byte} {k : Nat}
    (hk : c.bankPort[k]? = some (some p)) : portReg c p = .bank k := by
  have hn := Config.claimedPorts_nodup h
  rw [portReg_of_not_device ((Config.device_ports h).2 p (List.mem_of_getElem? hk)),
    bankWindow_eq 0 (List.nodup_append.1 hn).1 hk, Nat.zero_add]

theorem portReg_unmapped {c : Config} {p : Byte} (hp : p ∉ c.claimedPorts) : portReg c p = .unmapped := by
  simp only [Config.claimedPorts, List.mem_append, not_or] at hp
  rw [portReg_of_not_device hp.2, bankWindow_none]
  exact fun hm => hp.1 (List.mem_filterMap.2 ⟨some p, hm, rfl⟩)

/-- The register of a device port selects no page. -/
theorem portReg_device_ne_bank {c : Config} (h : c.wellFormed = true) {p : Byte}
    (hp : p ∈ [c.uartData, c.uartStatus, c.diskBase, c.diskBase + 1#8, c.diskBase + 2#8, c.diskBase + 3#8,
      c.diskBase + 4#8, c.diskBase + 5#8, c.diskBase + 6#8, c.diskBase + 7#8, c.nvAddr, c.nvData]) (k : Nat) :
    portReg c p ≠ .bank k := by
  simp only [List.mem_cons, List.not_mem_nil, or_false] at hp
  rcases hp with rfl | rfl | rfl | rfl | rfl | rfl | rfl | rfl | rfl | rfl | rfl | rfl
  · rw [portReg_uartData]; nofun
  · rw [portReg_uartStatus h]; nofun
  · rw [portReg_dkUnit h]; nofun
  · rw [show portReg c (c.diskBase + 1#8) = _ from portReg_dkLba h 0]; nofun
  · rw [show portReg c (c.diskBase + 2#8) = _ from portReg_dkLba h 1]; nofun
  · rw [show portReg c (c.diskBase + 3#8) = _ from portReg_dkLba h 2]; nofun
  · rw [show portReg c (c.diskBase + 4#8) = _ from portReg_dkLba h 3]; nofun
  · rw [portReg_dkCommand h]; nofun
  · rw [portReg_dkData h]; nofun
  · rw [portReg_dkSlices h]; nofun
  · rw [portReg_nvAddr h]; nofun
  · rw [portReg_nvData h]; nofun

/-- Only the bank port of a window selects its page. -/
theorem portReg_bank_inv {c : Config} (h : c.wellFormed = true) {p : Byte} {k : Nat} (hb : portReg c p = .bank k) :
    c.bankPort[k]? = some (some p) := by
  by_cases hp : p ∈ [c.uartData, c.uartStatus, c.diskBase, c.diskBase + 1#8, c.diskBase + 2#8, c.diskBase + 3#8,
      c.diskBase + 4#8, c.diskBase + 5#8, c.diskBase + 6#8, c.diskBase + 7#8, c.nvAddr, c.nvData]
  · exact absurd hb (portReg_device_ne_bank h hp k)
  · rw [portReg_of_not_device hp] at hb
    split at hb
    · rename_i w hw
      cases hb
      simpa using (bankWindow_some hw).2
    · cases hb

/-- A window with no bank port keeps its page through every port write (20_memory.md rule R67). -/
theorem State.ioWrite_window {s : State} (h : s.cfg.wellFormed = true) {w : Nat} (hw : s.cfg.bankPort[w]? = some none) (a : Word)
    (v : Byte) : (s.ioWrite a v).mem.map[w]? = s.mem.map[w]? := by
  unfold State.ioWrite
  split <;> try rfl
  rename_i k hk
  have hne : k ≠ w := by
    rintro rfl
    have := portReg_bank_inv h hk
    rw [hw] at this
    cases this
  exact List.getElem?_set_ne hne

end Sys2Proof.Machine
end

