-- ==== Sys2Proof/Laws/Devices.lean ====
section
/-! SUPPORT. Bounds of a well-formed configuration: ROM by physical address, the bank map, disk units and sectors, the
bytes of the LBA register. -/

namespace Sys2Proof.Machine

/-- The bounds rule R5 of 00_scope.md puts on the numbers of a configuration. -/
theorem Config.bounds {c : Config} (h : c.wellFormed = true) :
    8 ≤ c.pageBits ∧ c.pageBits ≤ 16 ∧ 1 ≤ c.nRomPages ∧ c.nRomPages < c.nPhysPages ∧
      c.bankDecode.wellFormed c.nPhysPages = true ∧ 1 ≤ c.sectorSize := by
  simp only [Config.wellFormed, Config.pagesWellFormed, Config.banksWellFormed, Config.devicesWellFormed,
    Bool.and_eq_true, decide_eq_true_eq] at h
  obtain ⟨⟨⟨⟨⟨⟨⟨h1, h2⟩, _⟩, h4⟩, h5⟩, ⟨_, h10⟩⟩, _⟩, ⟨⟨⟨h13, _⟩, _⟩, _⟩⟩ := h
  exact ⟨h1, h2, h4, h5, h10, h13⟩

theorem Config.pageSize_pos (c : Config) : 0 < c.pageSize := Nat.two_pow_pos _

/-- A logical address is in ROM exactly when its physical address is below `ROM_SIZE` (10_state.md rule R37). -/
theorem State.isRom_iff (s : State) (a : Word) : s.isRom a = true ↔ s.translate a < s.cfg.romSize := by
  have hp := Config.pageSize_pos s.cfg
  have hm := Nat.mod_lt a.toNat hp
  unfold State.isRom State.translate Config.romSize
  simp only [decide_eq_true_eq]
  constructor
  · intro h
    have := Nat.mul_le_mul_right s.cfg.pageSize (Nat.succ_le_of_lt h)
    rw [Nat.succ_mul] at this
    omega
  · intro h
    by_contra hh
    have := Nat.mul_le_mul_right s.cfg.pageSize (not_lt.1 hh)
    omega

/-- A mapped page that exists gives a physical address that exists (10_state.md rules R37, R38). -/
theorem State.translate_lt {s : State} (hm : ∀ p ∈ s.mem.map, p < s.cfg.nPhysPages) (hn : 0 < s.cfg.nPhysPages)
    (a : Word) : s.translate a < s.cfg.physSize := by
  have hp := Config.pageSize_pos s.cfg
  have hpg : s.pageOf a < s.cfg.nPhysPages := by
    unfold State.pageOf
    rw [List.getD_eq_getElem?_getD]
    cases hg : s.mem.map[a.toNat / s.cfg.pageSize]? with
    | none => exact hn
    | some p => exact hm p (List.mem_of_getElem? hg)
  have h1 := Nat.mod_lt a.toNat hp
  have h2 := Nat.mul_le_mul_right s.cfg.pageSize (Nat.succ_le_of_lt hpg)
  rw [Nat.succ_mul] at h2
  unfold State.translate Config.physSize
  omega

/-- `BANK_DECODE` yields a page that exists (00_scope.md rule R5). -/
theorem bankDecode_lt {d : BankDecode} {n : Nat} (h : d.wellFormed n = true) (hn : 0 < n) (v : Byte) :
    bankDecode d v < n := by
  cases d with
  | modulo m =>
    simp only [BankDecode.wellFormed, Bool.and_eq_true, decide_eq_true_eq] at h
    exact lt_of_lt_of_le (Nat.mod_lt _ (by omega)) h.2
  | table l =>
    simp only [BankDecode.wellFormed, Bool.and_eq_true, List.all_eq_true, decide_eq_true_eq] at h
    change l.getD v.toNat 0 < n
    rw [List.getD_eq_getElem?_getD]
    cases hg : l[v.toNat]? with
    | none => exact hn
    | some p => exact h.2 p (List.mem_of_getElem? hg)

/-- A unit written reads back; the others keep their records. -/
theorem Disk.unitAt_setUnit (d : Disk) (u w : BitVec 4) (r : DiskUnit) :
    (d.setUnit u r).unitAt w = if w = u then r else d.unitAt w := by
  unfold Disk.setUnit Disk.unitAt
  simp only [Vector.getElem_set, BitVec.toNat_inj, eq_comm]

/-- A sector that exists has the sector size (60_exceptions.md rule R538). -/
theorem readSector_length {image : List Byte} {size lba total : Nat} (h : image.length = total * size)
    (hl : lba < total) : (readSector image size lba).length = size := by
  have h1 : (lba + 1) * size ≤ total * size := Nat.mul_le_mul_right _ hl
  rw [Nat.succ_mul] at h1
  simp only [readSector, List.length_take, List.length_drop]
  omega

/-- Writing a sector keeps the length of the image (60_exceptions.md rule R538). -/
theorem writeSector_length {image bytes : List Byte} {size lba total : Nat} (h : image.length = total * size)
    (hl : lba < total) (hb : bytes.length = size) : (writeSector image size lba bytes).length = total * size := by
  have h1 : (lba + 1) * size ≤ total * size := Nat.mul_le_mul_right _ hl
  rw [Nat.succ_mul] at h1
  simp only [writeSector, List.length_append, List.length_take, List.length_drop]
  omega

/-- Byte `k` of the sector number (60_exceptions.md rule R532). -/
theorem lbaByte_toNat (lba : BitVec 32) (k : Fin 4) : (lbaByte lba k).toNat = lba.toNat / 256 ^ k.val % 256 := by
  unfold lbaByte
  rw [BitVec.extractLsb'_toNat, Nat.shiftRight_eq_div_pow, show (256 : Nat) = 2 ^ 8 from rfl, ← pow_mul]

/-- A byte of the sector number written reads back; the others keep their values. -/
theorem lbaByte_setLbaByte (lba : BitVec 32) (k j : Fin 4) (v : Byte) :
    lbaByte (setLbaByte lba k v) j = if j = k then v else lbaByte lba j := by
  have e : ∀ (x : BitVec 32) (j : Fin 4) (i : Nat),
      (lbaByte x j).getLsbD i = (decide (i < 8) && x.getLsbD (8 * j.val + i)) := by
    intro x j i
    simp only [lbaByte, BitVec.getLsbD_extractLsb']
  apply BitVec.eq_of_getLsbD_eq
  intro i hi
  rw [e]
  fin_cases k <;> fin_cases j <;> simp only [setLbaByte, BitVec.getLsbD_append, BitVec.getLsbD_extractLsb'] <;>
    interval_cases i <;> simp [lbaByte]

/-- The record with its checksum recomputed keeps it when it is recomputed again. -/
theorem NvRecord.sealed_sealed (nv : NvRecord) (k : NvChecksum) : (nv.sealed k).sealed k = nv.sealed k := rfl

end Sys2Proof.Machine
end

