-- ==== Sys2Proof/Laws/Ops.lean ====
section
/-! SUPPORT. One lemma per shared operation over registers, memory and the stack: everything it can do. -/

namespace Sys2Proof.Machine

theorem word_sub_one_one (v : Word) : v - 1#16 - 1#16 = v - 2#16 := by
  rw [BitVec.sub_sub]; rfl

theorem word_add_one_one (v : Word) : v + 1#16 + 1#16 = v + 2#16 := by
  rw [BitVec.add_assoc]; rfl

theorem SameRest.refl (s : State) : SameRest s s := ⟨rfl, rfl, rfl, rfl, rfl, rfl, rfl⟩

theorem SameRest.trans {s t u : State} (h : SameRest s t) (k : SameRest t u) : SameRest s u := by
  obtain ⟨h1, h2, h3, h4, h5, h6, h7⟩ := h
  obtain ⟨k1, k2, k3, k4, k5, k6, k7⟩ := k
  exact ⟨k1.trans h1, k2.trans h2, k3.trans h3, k4.trans h4, k5.trans h5, k6.trans h6, k7.trans h7⟩

/-- A change of the CPU alone. -/
theorem Becomes.cpu (s : State) (x : Cpu) (n : Nat) : Becomes s { s with cpu := x, draws := n } x [] :=
  ⟨rfl, MemoryAfter.none rfl rfl, rfl, rfl, rfl, rfl, rfl, rfl, rfl⟩

/-- A change of the CPU after one that made the stores. -/
theorem Becomes.then_cpu {s t : State} {x : Cpu} {l : List (Word × Byte)} (h : Becomes s t x l) (y : Cpu) (n : Nat) :
    Becomes s { t with cpu := y, draws := n } y l := by
  obtain ⟨_, h2, h3⟩ := h
  exact ⟨rfl, h2.of_eq rfl rfl, h3.trans ⟨rfl, rfl, rfl, rfl, rfl, rfl, rfl⟩⟩

/-- One more store. -/
theorem Becomes.then_store {s t : State} {x : Cpu} {l : List (Word × Byte)} (h : Becomes s t x l) (a : Word) (v : Byte) :
    Becomes s (t.writeByte a v) x (l ++ [(a, v)]) := by
  obtain ⟨h1, h2, h3⟩ := h
  exact ⟨by simpa using h1, h2.store h3.2.2.2.2.2.2 a v,
    h3.trans ⟨by simp, by simp, by simp, by simp, by simp, by simp, by simp⟩⟩

/-- A later update of the CPU alone, given by what it leaves in each field. -/
theorem Becomes.update {s t u : State} {x y : Cpu} {l : List (Word × Byte)} (h : Becomes s t x l) (hu : u.cpu = y)
    (hm : u.mem = t.mem) (hr : SameRest t u) : Becomes s u y l :=
  ⟨hu, h.2.1.of_eq hm hr.2.2.2.2.2.2, h.2.2.trans hr⟩

theorem Becomes.advance {s t : State} {x : Cpu} {l : List (Word × Byte)} (h : Becomes s t x l) (n : Nat) :
    Becomes s (t.advance n) { x with pc := x.pc + BitVec.ofNat 16 n } l :=
  h.update (by simp [h.1]) rfl ⟨rfl, rfl, rfl, rfl, rfl, rfl, rfl⟩

theorem Becomes.setPc {s t : State} {x : Cpu} {l : List (Word × Byte)} (h : Becomes s t x l) (v : Word) :
    Becomes s (t.setPc v) { x with pc := v } l :=
  h.update (by simp [h.1]) rfl ⟨rfl, rfl, rfl, rfl, rfl, rfl, rfl⟩

theorem Becomes.setHl {s t : State} {x : Cpu} {l : List (Word × Byte)} (h : Becomes s t x l) (v : Word) :
    Becomes s (t.setHl v) { x with h := hiByte v, l := loByte v } l :=
  h.update (by simp [h.1]) rfl ⟨rfl, rfl, rfl, rfl, rfl, rfl, rfl⟩

theorem Becomes.setIx {s t : State} {x : Cpu} {l : List (Word × Byte)} (h : Becomes s t x l) (v : Word) :
    Becomes s (t.setIx v) { x with ix := v } l :=
  h.update (by simp [h.1]) rfl ⟨rfl, rfl, rfl, rfl, rfl, rfl, rfl⟩

theorem Becomes.setIy {s t : State} {x : Cpu} {l : List (Word × Byte)} (h : Becomes s t x l) (v : Word) :
    Becomes s (t.setIy v) { x with iy := v } l :=
  h.update (by simp [h.1]) rfl ⟨rfl, rfl, rfl, rfl, rfl, rfl, rfl⟩

/-- Flags computed after the rest of the CPU is settled. -/
theorem Becomes.setFlags {s t : State} {x : Cpu} {l : List (Word × Byte)} (h : Becomes s t x l) (f : Fl) :
    BecomesF s (t.setFlags f) x l :=
  ⟨by simp [h.1], h.2.1.of_eq rfl rfl, h.2.2.trans ⟨rfl, rfl, rfl, rfl, rfl, rfl, rfl⟩⟩

/-- The pc moved after the flags are computed. -/
theorem BecomesF.advance {s t : State} {x : Cpu} {l : List (Word × Byte)} (h : BecomesF s t x l) (n : Nat) :
    BecomesF s (t.advance n) { x with pc := x.pc + BitVec.ofNat 16 n } l := by
  obtain ⟨h1, h2, h3⟩ := h
  have hf : (t.advance n).cpu.f = t.cpu.f := rfl
  refine ⟨?_, h2.of_eq rfl rfl, h3.trans ⟨rfl, rfl, rfl, rfl, rfl, rfl, rfl⟩⟩
  rw [hf, State.advance_cpu]
  generalize t.cpu.f = g at h1 ⊢
  rw [h1]

/-- `MemWrite(addr, 1, v)`. -/
theorem State.writeByte_becomes (s : State) (a : Word) (v : Byte) : Becomes s (s.writeByte a v) s.cpu [(a, v)] :=
  Becomes.then_store (l := []) ⟨rfl, MemoryAfter.refl s, SameRest.refl s⟩ a v

/-- `MemWrite(addr, 2, v)`. -/
theorem State.writeWord_becomes (s : State) (a v : Word) :
    Becomes s (s.writeWord a v) s.cpu [(a, loByte v), (a + 1#16, hiByte v)] :=
  (s.writeByte_becomes a (loByte v)).then_store (a + 1#16) (hiByte v)

/-- The store of `EX (SP),..`. -/
theorem State.storeTop_becomes (s : State) (v : Word) :
    Becomes s (s.storeTop v) s.cpu [(s.cpu.sp + 1#16, hiByte v), (s.cpu.sp, loByte v)] :=
  (s.writeByte_becomes (s.cpu.sp + 1#16) (hiByte v)).then_store s.cpu.sp (loByte v)

/-- `push16(v)`. -/
theorem State.push16_becomes (s : State) (v : Word) :
    Becomes s (s.push16 v) { s.cpu with sp := s.cpu.sp - 2#16 }
      [(s.cpu.sp - 1#16, hiByte v), (s.cpu.sp - 2#16, loByte v)] := by
  have h1 := Becomes.cpu s { s.cpu with sp := s.cpu.sp - 1#16 } s.draws
  have h2 := h1.then_store (s.cpu.sp - 1#16) (hiByte v)
  have h3 := h2.then_cpu { s.cpu with sp := s.cpu.sp - 1#16 - 1#16 } s.draws
  have h4 := h3.then_store (s.cpu.sp - 1#16 - 1#16) (loByte v)
  simp only [word_sub_one_one] at h3 h4
  have e : s.push16 v = State.writeByte { (({ s with cpu := { s.cpu with sp := s.cpu.sp - 1#16 } } : State).writeByte
      (s.cpu.sp - 1#16) (hiByte v)) with cpu := { s.cpu with sp := s.cpu.sp - 2#16 }, draws := s.draws }
      (s.cpu.sp - 2#16) (loByte v) := by
    simp only [State.push16, State.setSp, State.writeByte_cpu, word_sub_one_one]
    congr 2
    simp
  rw [e]
  exact h4

/-- `pop16()`: the value. -/
theorem State.pop16_value (s : State) :
    s.pop16.1 = mkWord (s.readByte (s.cpu.sp + 1#16)) (s.readByte s.cpu.sp) := rfl

/-- `pop16()`: the state. -/
theorem State.pop16_state (s : State) : s.pop16.2 = { s with cpu := { s.cpu with sp := s.cpu.sp + 2#16 } } := by
  simp only [State.pop16, State.setSp, word_add_one_one]

/-- `pc <- pop16()`. -/
theorem State.returnFrom_eq (s : State) :
    s.returnFrom =
      { s with
        cpu := { s.cpu with
          sp := s.cpu.sp + 2#16, pc := mkWord (s.readByte (s.cpu.sp + 1#16)) (s.readByte s.cpu.sp) } } := by
  simp only [State.returnFrom, State.setPc, State.pop16_state, State.pop16_value]

/-- A call: the return address pushed, and the jump. -/
theorem State.call_becomes (s : State) (n : Nat) (v : Word) :
    Becomes s (s.call n v) { s.cpu with sp := s.cpu.sp - 2#16, pc := v }
      [(s.cpu.sp - 1#16, hiByte (s.cpu.pc + BitVec.ofNat 16 n)),
        (s.cpu.sp - 2#16, loByte (s.cpu.pc + BitVec.ofNat 16 n))] := by
  have h := (s.push16_becomes (s.cpu.pc + BitVec.ofNat 16 n))
  have h2 := h.then_cpu { s.cpu with sp := s.cpu.sp - 2#16, pc := v } (s.push16 (s.cpu.pc + BitVec.ofNat 16 n)).draws
  rw [show s.call n v = { s.push16 (s.cpu.pc + BitVec.ofNat 16 n) with
      cpu := { s.cpu with sp := s.cpu.sp - 2#16, pc := v } } by
    rw [State.call, State.setPc, h.1]]
  exact h2

/-- What every interrupt entry does (60_exceptions.md rule R519). -/
theorem State.enterInterrupt_becomes (s : State) (iff2 : Bool) :
    Becomes s (s.enterInterrupt iff2)
      { s.cpu with
        halted := false, iff1 := false, iff2 := iff2, r := refreshed s.cpu.r 1, sp := s.cpu.sp - 2#16 }
      [(s.cpu.sp - 1#16, hiByte s.cpu.pc), (s.cpu.sp - 2#16, loByte s.cpu.pc)] := by
  have h := State.push16_becomes
    { s with cpu := { s.cpu with halted := false, iff1 := false, iff2 := iff2, r := refreshed s.cpu.r 1 } } s.cpu.pc
  obtain ⟨h1, h2, h3⟩ := h
  exact ⟨h1, h2, h3⟩

/-! ### Registers -/

@[simp] theorem State.setReg_cpu (s : State) (r : Reg8) (v : Byte) : (s.setReg r v).cpu = s.cpu.put r v := by
  cases r <;> rfl

@[simp] theorem State.setPair_cpu (s : State) (p : Pair) (v : Word) : (s.setPair p v).cpu = s.cpu.putPair p v := by
  cases p <;> rfl

/-- `rp2[p] <- v` leaves every register alone but the pair. -/
theorem State.setPairQ_cpu (s : State) (p : PairQ) (v : Word) :
    (s.setPairQ p v).cpu =
      match p with
      | .bc => s.cpu.putPair .bc v
      | .de => s.cpu.putPair .de v
      | .hl => s.cpu.putPair .hl v
      | .af => { s.cpu with a := hiByte v, f := Flags.ofByte (loByte v) } := by
  cases p <;> rfl

/-- A register written reads back; the others keep their values (10_state.md rule R20). -/
theorem State.reg_setReg (s : State) (r q : Reg8) (v : Byte) :
    (s.setReg r v).reg q = if q = r then v else s.reg q := by
  cases r <;> cases q <;> rfl

/-- A pair written reads back whole (10_state.md rule R21). -/
theorem State.pair_setPair_same (s : State) (p : Pair) (v : Word) : (s.setPair p v).pair p = v := by
  cases p <;> simp [State.pair, State.setPair, State.bc, State.de, State.hl]

/-- `R[6:0]` advanced by `k`, `R[7]` kept (10_state.md rule R30). -/
theorem refreshed_toNat (r : Byte) (k : Nat) :
    (refreshed r k).toNat = r.toNat / 128 * 128 + (r.toNat + k) % 128 := by
  have hr := r.isLt
  unfold refreshed
  refine (BitVec.toNat_append _ _).trans ?_
  rw [Nat.shiftLeft_eq, Nat.mul_comm, ← Nat.two_pow_add_eq_or_of_lt (BitVec.isLt _)]
  simp only [BitVec.toNat_add, BitVec.extractLsb'_toNat, BitVec.toNat_ofNat, Nat.shiftRight_eq_div_pow]
  omega

/-- What a step does before an instruction's operation. -/
theorem State.beginInstr_becomes (s : State) (k : Nat) :
    Becomes s (s.beginInstr k) { s.cpu with eiDelay := false, r := refreshed s.cpu.r k } [] :=
  Becomes.cpu s { s.cpu with eiDelay := false, r := refreshed s.cpu.r k } s.draws

/-- The restart opcodes are the bytes `11 yyy 111` (30_encoding.md rule R113). -/
theorem isRst_iff (v : Byte) : isRst v = true ↔ ∃ y : BitVec 3, v = 0b11#2 ++ y ++ 0b111#3 := by
  revert v; decide +kernel

/-- The restart addresses (30_encoding.md rule R111). -/
theorem restartAddr_toNat (y : BitVec 3) : (restartAddr y).toNat = 8 * y.toNat := by revert y; decide +kernel

end Sys2Proof.Machine
end

