-- ==== Sys2Proof/Laws/Exec.lean ====
section
/-! SUPPORT. What an instruction and a step can do at all, said once: a chain of register updates, byte stores and port
accesses. A property that these four keep, every instruction keeps. -/

namespace Sys2Proof.Machine

/-- `t` is reached from `s` by register updates, byte stores, port reads and port writes. -/
inductive Reach (s : State) : State → Prop where
  | refl : Reach s s
  | cpu {t : State} (x : Cpu) (n : Nat) : Reach s t → Reach s { t with cpu := x, draws := n }
  | store {t : State} (a : Word) (v : Byte) : Reach s t → Reach s (t.writeByte a v)
  | portRead {t : State} (a : Word) : Reach s t → Reach s (t.ioRead a).2
  | portWrite {t : State} (a : Word) (v : Byte) : Reach s t → Reach s (t.ioWrite a v)

theorem Reach.upd {s t : State} (h : Reach s t) (x : Cpu) : Reach s { t with cpu := x } := h.cpu x t.draws

theorem Reach.setReg {s t : State} (h : Reach s t) (r : Reg8) (v : Byte) : Reach s (t.setReg r v) := by
  cases r <;> exact h.upd _

theorem Reach.setBc {s t : State} (h : Reach s t) (v : Word) : Reach s (t.setBc v) := h.upd _

theorem Reach.setDe {s t : State} (h : Reach s t) (v : Word) : Reach s (t.setDe v) := h.upd _

theorem Reach.setHl {s t : State} (h : Reach s t) (v : Word) : Reach s (t.setHl v) := h.upd _

theorem Reach.setIx {s t : State} (h : Reach s t) (v : Word) : Reach s (t.setIx v) := h.upd _

theorem Reach.setIy {s t : State} (h : Reach s t) (v : Word) : Reach s (t.setIy v) := h.upd _

theorem Reach.setSp {s t : State} (h : Reach s t) (v : Word) : Reach s (t.setSp v) := h.upd _

theorem Reach.setPc {s t : State} (h : Reach s t) (v : Word) : Reach s (t.setPc v) := h.upd _

theorem Reach.advance {s t : State} (h : Reach s t) (n : Nat) : Reach s (t.advance n) := h.upd _

theorem Reach.setPair {s t : State} (h : Reach s t) (p : Pair) (v : Word) : Reach s (t.setPair p v) := by
  cases p <;> exact h.upd _

theorem Reach.setPairQ {s t : State} (h : Reach s t) (p : PairQ) (v : Word) : Reach s (t.setPairQ p v) := by
  cases p <;> exact h.upd _

theorem Reach.setFlags {s t : State} (h : Reach s t) (f : Fl) : Reach s (t.setFlags f) := h.cpu _ _

theorem Reach.setFlagsBlockIo {s t : State} (h : Reach s t) (z : Bool) : Reach s (t.setFlagsBlockIo z) := h.cpu _ _

theorem Reach.setA {s t : State} (h : Reach s t) (p : Byte × Fl) : Reach s (t.setA p) := (h.setReg .a _).setFlags _

theorem Reach.setRegFlags {s t : State} (h : Reach s t) (r : Reg8) (p : Byte × Fl) : Reach s (t.setRegFlags r p) :=
  (h.setReg r _).setFlags _

theorem Reach.modify {s t : State} (h : Reach s t) (a : Word) (p : Byte × Fl) : Reach s (t.modify a p) :=
  (h.store a _).setFlags _

theorem Reach.rotateA {s t : State} (h : Reach s t) (op : RotOp) : Reach s (t.rotateA op) :=
  (h.setReg .a _).setFlags _

theorem Reach.writeWord {s t : State} (h : Reach s t) (a v : Word) : Reach s (t.writeWord a v) :=
  (h.store a _).store _ _

theorem Reach.storeTop {s t : State} (h : Reach s t) (v : Word) : Reach s (t.storeTop v) := (h.store _ _).store _ _

theorem Reach.push16 {s t : State} (h : Reach s t) (v : Word) : Reach s (t.push16 v) :=
  (((h.setSp _).store _ _).setSp _).store _ _

theorem Reach.pop16 {s t : State} (h : Reach s t) : Reach s t.pop16.2 := (h.setSp _).setSp _

theorem Reach.returnFrom {s t : State} (h : Reach s t) : Reach s t.returnFrom := h.pop16.setPc _

theorem Reach.restoreIff {s t : State} (h : Reach s t) : Reach s t.restoreIff := h.upd _

theorem Reach.call {s t : State} (h : Reach s t) (n : Nat) (v : Word) : Reach s (t.call n v) := (h.push16 _).setPc v

theorem Reach.blockLoad {s t : State} (h : Reach s t) (step : Word) : Reach s (t.blockLoad step) :=
  ((((h.store _ _).setHl _).setDe _).setBc _).setFlags _

theorem Reach.blockCompare {s t : State} (h : Reach s t) (step : Word) : Reach s (t.blockCompare step) :=
  ((h.setHl _).setBc _).setFlags _

theorem Reach.blockIn {s t : State} (h : Reach s t) (step : Word) : Reach s (t.blockIn step) :=
  ((((h.portRead _).store _ _).setHl _).setReg .b _).setFlagsBlockIo _

theorem Reach.blockOut {s t : State} (h : Reach s t) (step : Word) : Reach s (t.blockOut step) :=
  (((h.setReg .b _).portWrite _ _).setHl _).setFlagsBlockIo _

/-- An outcome is a next state reached from `s`. -/
def Reaches (s : State) (o : Result) : Prop := ∃ t, o = .next t ∧ Reach s t

theorem Reach.next {s t : State} (h : Reach s t) : Reaches s (.next t) := ⟨t, rfl, h⟩

theorem Reach.done {s t : State} (h : Reach s t) (n : Nat) : Reaches s (t.done n) := (h.advance n).next

theorem Reach.repeatUnless {s t : State} (h : Reach s t) (b : Bool) : Reaches s (t.repeatUnless b) := by
  cases b
  · exact h.next
  · exact h.done 2

theorem Reach.jumpRelIf {s t : State} (h : Reach s t) (b : Bool) (e : Byte) : Reaches s (t.jumpRelIf b e) := by
  cases b
  · exact h.done 2
  · exact (h.setPc _).next

theorem Reaches.ite {s : State} {c : Bool} {o p : Result} (h : Reaches s o) (k : Reaches s p) :
    Reaches s (if c = true then o else p) := by
  cases c
  · exact k
  · exact h

/-- Every instruction answers a next state, reached by register updates, stores and port accesses. -/
theorem exec_reaches (i : Instr) (s : State) : Reaches s (exec i s) := by
  have r := @Reach.refl s
  cases i with
  | ldRR _ _ => exact (r.setReg _ _).done _
  | ldRN _ _ => exact (r.setReg _ _).done _
  | ldRHl _ => exact (r.setReg _ _).done _
  | ldRIxd _ _ => exact (r.setReg _ _).done _
  | ldRIyd _ _ => exact (r.setReg _ _).done _
  | ldHlR _ => exact (r.store _ _).done _
  | ldIxdR _ _ => exact (r.store _ _).done _
  | ldIydR _ _ => exact (r.store _ _).done _
  | ldHlN _ => exact (r.store _ _).done _
  | ldIxdN _ _ => exact (r.store _ _).done _
  | ldIydN _ _ => exact (r.store _ _).done _
  | ldABc => exact (r.setReg _ _).done _
  | ldADe => exact (r.setReg _ _).done _
  | ldANn _ => exact (r.setReg _ _).done _
  | ldBcA => exact (r.store _ _).done _
  | ldDeA => exact (r.store _ _).done _
  | ldNnA _ => exact (r.store _ _).done _
  | ldAI => exact ((r.setReg .a _).setFlags _).done _
  | ldARefresh => exact ((r.setReg .a _).setFlags _).done _
  | ldIA => exact (r.upd _).done _
  | ldRefreshA => exact (r.upd _).done _
  | ldDdNn _ _ => exact (r.setPair _ _).done _
  | ldIxNn _ => exact (r.setIx _).done _
  | ldIyNn _ => exact (r.setIy _).done _
  | ldHlMem _ => exact (r.setHl _).done _
  | ldDdMem _ _ => exact (r.setPair _ _).done _
  | ldIxMem _ => exact (r.setIx _).done _
  | ldIyMem _ => exact (r.setIy _).done _
  | ldMemHl _ => exact (r.writeWord _ _).done _
  | ldMemDd _ _ => exact (r.writeWord _ _).done _
  | ldMemIx _ => exact (r.writeWord _ _).done _
  | ldMemIy _ => exact (r.writeWord _ _).done _
  | ldSpHl => exact (r.setSp _).done _
  | ldSpIx => exact (r.setSp _).done _
  | ldSpIy => exact (r.setSp _).done _
  | pushQq _ => exact (r.push16 _).done _
  | pushIx => exact (r.push16 _).done _
  | pushIy => exact (r.push16 _).done _
  | popQq _ => exact (r.pop16.setPairQ _ _).done _
  | popIx => exact (r.pop16.setIx _).done _
  | popIy => exact (r.pop16.setIy _).done _
  | exDeHl => exact ((r.setDe _).setHl _).done _
  | exAfAf => exact (r.upd _).done _
  | exx => exact (r.upd _).done _
  | exSpHl => exact ((r.storeTop _).setHl _).done _
  | exSpIx => exact ((r.storeTop _).setIx _).done _
  | exSpIy => exact ((r.storeTop _).setIy _).done _
  | ldi => exact (r.blockLoad _).done _
  | ldir => exact (r.blockLoad _).repeatUnless _
  | ldd => exact (r.blockLoad _).done _
  | lddr => exact (r.blockLoad _).repeatUnless _
  | cpi => exact (r.blockCompare _).done _
  | cpir => exact (r.blockCompare _).repeatUnless _
  | cpd => exact (r.blockCompare _).done _
  | cpdr => exact (r.blockCompare _).repeatUnless _
  | addAR _ => exact (r.setA _).done _
  | addAN _ => exact (r.setA _).done _
  | addAHl => exact (r.setA _).done _
  | addAIxd _ => exact (r.setA _).done _
  | addAIyd _ => exact (r.setA _).done _
  | adcAR _ => exact (r.setA _).done _
  | adcAN _ => exact (r.setA _).done _
  | adcAHl => exact (r.setA _).done _
  | adcAIxd _ => exact (r.setA _).done _
  | adcAIyd _ => exact (r.setA _).done _
  | subR _ => exact (r.setA _).done _
  | subN _ => exact (r.setA _).done _
  | subHl => exact (r.setA _).done _
  | subIxd _ => exact (r.setA _).done _
  | subIyd _ => exact (r.setA _).done _
  | sbcAR _ => exact (r.setA _).done _
  | sbcAN _ => exact (r.setA _).done _
  | sbcAHl => exact (r.setA _).done _
  | sbcAIxd _ => exact (r.setA _).done _
  | sbcAIyd _ => exact (r.setA _).done _
  | andR _ => exact (r.setA _).done _
  | andN _ => exact (r.setA _).done _
  | andHl => exact (r.setA _).done _
  | andIxd _ => exact (r.setA _).done _
  | andIyd _ => exact (r.setA _).done _
  | xorR _ => exact (r.setA _).done _
  | xorN _ => exact (r.setA _).done _
  | xorHl => exact (r.setA _).done _
  | xorIxd _ => exact (r.setA _).done _
  | xorIyd _ => exact (r.setA _).done _
  | orR _ => exact (r.setA _).done _
  | orN _ => exact (r.setA _).done _
  | orHl => exact (r.setA _).done _
  | orIxd _ => exact (r.setA _).done _
  | orIyd _ => exact (r.setA _).done _
  | cpR _ => exact (r.setFlags _).done _
  | cpN _ => exact (r.setFlags _).done _
  | cpHl => exact (r.setFlags _).done _
  | cpIxd _ => exact (r.setFlags _).done _
  | cpIyd _ => exact (r.setFlags _).done _
  | incR _ => exact (r.setRegFlags _ _).done _
  | incHl => exact (r.modify _ _).done _
  | incIxd _ => exact (r.modify _ _).done _
  | incIyd _ => exact (r.modify _ _).done _
  | decR _ => exact (r.setRegFlags _ _).done _
  | decHl => exact (r.modify _ _).done _
  | decIxd _ => exact (r.modify _ _).done _
  | decIyd _ => exact (r.modify _ _).done _
  | daa => exact (r.setA _).done _
  | cpl => exact ((r.setReg .a _).setFlags _).done _
  | neg => exact (r.setA _).done _
  | ccf => exact (r.setFlags _).done _
  | scf => exact (r.setFlags _).done _
  | nop => exact r.done _
  | halt => exact (r.upd _).done _
  | di => exact (r.upd _).done _
  | ei => exact (r.upd _).done _
  | im0 => exact (r.upd _).done _
  | im1 => exact (r.upd _).done _
  | im2 => exact (r.upd _).done _
  | addHlSs _ => exact ((r.setHl _).setFlags _).done _
  | adcHlSs _ => exact ((r.setHl _).setFlags _).done _
  | sbcHlSs _ => exact ((r.setHl _).setFlags _).done _
  | addIxPp _ => exact ((r.setIx _).setFlags _).done _
  | addIyRr _ => exact ((r.setIy _).setFlags _).done _
  | incSs _ => exact (r.setPair _ _).done _
  | decSs _ => exact (r.setPair _ _).done _
  | incIx => exact (r.setIx _).done _
  | decIx => exact (r.setIx _).done _
  | incIy => exact (r.setIy _).done _
  | decIy => exact (r.setIy _).done _
  | rlca => exact (r.rotateA _).done _
  | rla => exact (r.rotateA _).done _
  | rrca => exact (r.rotateA _).done _
  | rra => exact (r.rotateA _).done _
  | rlcR _ => exact (r.setRegFlags _ _).done _
  | rlcHl => exact (r.modify _ _).done _
  | rlcIxd _ => exact (r.modify _ _).done _
  | rlcIyd _ => exact (r.modify _ _).done _
  | rrcR _ => exact (r.setRegFlags _ _).done _
  | rrcHl => exact (r.modify _ _).done _
  | rrcIxd _ => exact (r.modify _ _).done _
  | rrcIyd _ => exact (r.modify _ _).done _
  | rlR _ => exact (r.setRegFlags _ _).done _
  | rlHl => exact (r.modify _ _).done _
  | rlIxd _ => exact (r.modify _ _).done _
  | rlIyd _ => exact (r.modify _ _).done _
  | rrR _ => exact (r.setRegFlags _ _).done _
  | rrHl => exact (r.modify _ _).done _
  | rrIxd _ => exact (r.modify _ _).done _
  | rrIyd _ => exact (r.modify _ _).done _
  | slaR _ => exact (r.setRegFlags _ _).done _
  | slaHl => exact (r.modify _ _).done _
  | slaIxd _ => exact (r.modify _ _).done _
  | slaIyd _ => exact (r.modify _ _).done _
  | sraR _ => exact (r.setRegFlags _ _).done _
  | sraHl => exact (r.modify _ _).done _
  | sraIxd _ => exact (r.modify _ _).done _
  | sraIyd _ => exact (r.modify _ _).done _
  | srlR _ => exact (r.setRegFlags _ _).done _
  | srlHl => exact (r.modify _ _).done _
  | srlIxd _ => exact (r.modify _ _).done _
  | srlIyd _ => exact (r.modify _ _).done _
  | rld => exact (((r.store _ _).setReg .a _).setFlags _).done _
  | rrd => exact (((r.store _ _).setReg .a _).setFlags _).done _
  | bitBR _ _ => exact (r.setFlags _).done _
  | bitBHl _ => exact (r.setFlags _).done _
  | bitBIxd _ _ => exact (r.setFlags _).done _
  | bitBIyd _ _ => exact (r.setFlags _).done _
  | setBR _ _ => exact (r.setReg _ _).done _
  | setBHl _ => exact (r.store _ _).done _
  | setBIxd _ _ => exact (r.store _ _).done _
  | setBIyd _ _ => exact (r.store _ _).done _
  | resBR _ _ => exact (r.setReg _ _).done _
  | resBHl _ => exact (r.store _ _).done _
  | resBIxd _ _ => exact (r.store _ _).done _
  | resBIyd _ _ => exact (r.store _ _).done _
  | jpNn _ => exact (r.setPc _).next
  | jpCcNn _ _ => exact ((r.setPc _).next).ite (r.done _)
  | jrE _ => exact (r.setPc _).next
  | jrCE _ => exact r.jumpRelIf _ _
  | jrNcE _ => exact r.jumpRelIf _ _
  | jrZE _ => exact r.jumpRelIf _ _
  | jrNzE _ => exact r.jumpRelIf _ _
  | jpHl => exact (r.setPc _).next
  | jpIx => exact (r.setPc _).next
  | jpIy => exact (r.setPc _).next
  | djnzE _ => exact (r.setReg .b _).jumpRelIf _ _
  | callNn _ => exact (r.call _ _).next
  | callCcNn _ _ => exact ((r.call _ _).next).ite (r.done _)
  | ret => exact r.returnFrom.next
  | retCc _ => exact (r.returnFrom.next).ite (r.done _)
  | reti => exact r.returnFrom.next
  | retn => exact r.returnFrom.restoreIff.next
  | rstP _ => exact (r.call _ _).next
  | inAN _ => exact ((r.portRead _).setReg _ _).done _
  | inRC _ => exact (((r.portRead _).setReg _ _).setFlags _).done _
  | ini => exact (r.blockIn _).done _
  | inir => exact (r.blockIn _).repeatUnless _
  | ind => exact (r.blockIn _).done _
  | indr => exact (r.blockIn _).repeatUnless _
  | outNA _ => exact (r.portWrite _ _).done _
  | outCR _ => exact (r.portWrite _ _).done _
  | outi => exact (r.blockOut _).done _
  | otir => exact (r.blockOut _).repeatUnless _
  | outd => exact (r.blockOut _).done _
  | otdr => exact (r.blockOut _).repeatUnless _

/-- A next state of an instruction is reached from the state before it. -/
theorem exec_next_reach {i : Instr} {s t : State} (h : exec i s = .next t) : Reach s t := by
  obtain ⟨u, hu, hr⟩ := exec_reaches i s
  rw [hu] at h
  cases h
  exact hr

/-- What no instruction touches. -/
theorem Reach.kept {s t : State} (h : Reach s t) :
    t.cfg = s.cfg ∧ t.life = s.life ∧ t.bridge = s.bridge ∧ t.pins = s.pins ∧ t.mem.epoch = s.mem.epoch ∧
      t.mem.romLoaded = s.mem.romLoaded := by
  induction h with
  | refl => exact ⟨rfl, rfl, rfl, rfl, rfl, rfl⟩
  | cpu x n _ ih => exact ih
  | store a v _ ih => simpa using ih
  | portRead a _ ih => simpa using ih
  | portWrite a v _ ih => simpa using ih

/-- The ways a step reaches a next state (60_exceptions.md rule R503). -/
theorem step_cases {s t : State} (h : step s = .next t) :
    s.cfg.wellFormed = true ∧
      ((s.pins.nmiPending = true ∧ t = s.acceptNmi) ∨
        (s.pins.nmiPending = false ∧ s.intAccepted = true ∧ s.acceptInt = .next t) ∨
        (s.pins.nmiPending = false ∧ s.intAccepted = false ∧
          ((s.cpu.halted = true ∧ t = s.haltedCycle) ∨
            (s.cpu.halted = false ∧
              ((∃ i, s.decodeAtPc = .instr i ∧ exec i (s.beginInstr i.rIncrement) = .next t) ∨
                ∃ c, s.decodeAtPc = .undef c ∧ s.cfg.undefPolicy = .nop ∧
                  t = (s.beginInstr c.rIncrement).advance c.length))))) := by
  unfold step at h
  cases hw : s.cfg.wellFormed
  · simp [hw] at h
  refine ⟨rfl, ?_⟩
  simp only [hw, Bool.true_eq_false, if_false] at h
  cases hn : s.pins.nmiPending
  · simp only [hn, Bool.false_eq_true, if_false] at h
    refine .inr ?_
    cases hi : s.intAccepted
    · simp only [hi, Bool.false_eq_true, if_false] at h
      refine .inr ⟨rfl, rfl, ?_⟩
      cases hh : s.cpu.halted
      · simp only [hh, Bool.false_eq_true, if_false] at h
        refine .inr ⟨rfl, ?_⟩
        cases hd : s.decodeAtPc with
        | instr i => exact .inl ⟨i, rfl, by simpa only [hd] using h⟩
        | undef c =>
          simp only [hd, State.runUndefined] at h
          cases hp : s.cfg.undefPolicy
          · simp only [hp, State.done, Host.Outcome.next.injEq] at h
            exact .inr ⟨c, rfl, rfl, h.symm⟩
          · simp [hp] at h
      · simp only [hh, if_true, Host.Outcome.next.injEq] at h
        exact .inl ⟨rfl, h.symm⟩
    · simp only [hi, if_true] at h
      exact .inl ⟨rfl, rfl, h⟩
  · simp only [hn, if_true, Host.Outcome.next.injEq] at h
    exact .inl ⟨rfl, h.symm⟩

/-- An accepted maskable interrupt changes the CPU and makes the two stores of the push, and nothing else. -/
theorem acceptInt_cases {s t : State} (h : s.acceptInt = .next t) : ∃ v, t = (s.enterInterrupt false).setPc v := by
  unfold State.acceptInt at h
  split at h
  · split at h
    · cases h; exact ⟨_, rfl⟩
    · cases h
  · cases h; exact ⟨_, rfl⟩
  · cases h; exact ⟨_, rfl⟩

/-- A window with no bank port keeps its page (20_memory.md rule R67). -/
theorem Reach.window_kept {s t : State} (h : Reach s t) (hc : s.cfg.wellFormed = true) {w : Nat}
    (hw : s.cfg.bankPort[w]? = some none) : t.mem.map[w]? = s.mem.map[w]? := by
  induction h with
  | refl => rfl
  | cpu x n _ ih => exact ih
  | store a v _ ih => simpa using ih
  | portRead a _ ih => simpa using ih
  | portWrite a v h ih => rw [State.ioWrite_window (h.kept.1 ▸ hc) (h.kept.1 ▸ hw), ih]

/-- No step changes the page of a window with no bank port (20_memory.md rule R67). -/
theorem step_window_kept {s t : State} (h : step s = .next t) {w : Nat} (hw : s.cfg.bankPort[w]? = some none) :
    t.mem.map[w]? = s.mem.map[w]? := by
  obtain ⟨hc, ⟨-, rfl⟩ | ⟨-, -, ha⟩ | ⟨-, -, ⟨-, rfl⟩ | ⟨-, ⟨i, -, he⟩ | ⟨c, -, -, rfl⟩⟩⟩⟩ := step_cases h
  · exact congrArg (·[w]?) (State.enterInterrupt_becomes _ _).2.1.1
  · obtain ⟨v, rfl⟩ := acceptInt_cases ha
    exact congrArg (·[w]?) (State.enterInterrupt_becomes _ _).2.1.1
  · rfl
  · exact (exec_next_reach he).window_kept hc hw
  · rfl

end Sys2Proof.Machine
end

