-- ==== Sys2Proof/Laws/Flags.lean ====
section
/-! SUPPORT. One lemma per flag computation: the result and the six flags by the spec's integer laws. -/

namespace Sys2Proof.Machine

/-- The six flags of a computed record, as `Flags.Are` reads them. -/
def Fl.Are (x : Fl) (s z h pv n c : Prop) : Prop :=
  (x.s = true ↔ s) ∧ (x.z = true ↔ z) ∧ (x.h = true ↔ h) ∧ (x.pv = true ↔ pv) ∧ (x.n = true ↔ n) ∧ (x.c = true ↔ c)

/-- F after `F <- x` has the flags of `x`. -/
theorem State.setFlags_are (t : State) (x : Fl) (s z h pv n c : Prop) :
    (t.setFlags x).cpu.f.Are s z h pv n c ↔ x.Are s z h pv n c := Iff.rfl

theorem add8_toNat (a b : Byte) (cin : Bool) :
    (add8 a b cin).1.toNat = (a.toNat + b.toNat + cin.toNat) % 256 := by
  simp [add8]

theorem add8_are (a b : Byte) (cin : Bool) :
    (add8 a b cin).2.Are (128 ≤ (add8 a b cin).1.toNat) ((add8 a b cin).1.toNat = 0)
      (15 < a.toNat % 16 + b.toNat % 16 + cin.toNat)
      (a.toInt + b.toInt + cin.toNat < -128 ∨ 127 < a.toInt + b.toInt + cin.toNat)
      False (255 < a.toNat + b.toNat + cin.toNat) := by
  have ha := a.isLt
  have hb := b.isLt
  have hc : cin.toNat ≤ 1 := Bool.toNat_le cin
  have hr := add8_toNat a b cin
  refine ⟨?_, ?_, ?_, ?_, ?_, ?_⟩ <;>
    simp only [add8, byte_msb, byte_zero, BitVec.toNat_ofNat, Bool.and_eq_true, bne_iff_ne, beq_iff_eq, ne_eq,
      decide_eq_true_eq, decide_eq_decide, byte_toInt, gt_iff_lt] at hr ⊢
  · split <;> split <;> omega
  · simp

theorem sub8_toNat (a b : Byte) (cin : Bool) :
    ((sub8 a b cin).1.toNat : Int) = ((a.toNat : Int) - b.toNat - cin.toNat) % 256 := by
  have ha := a.isLt
  have hb := b.isLt
  simp only [sub8, BitVec.toNat_ofInt]
  omega

theorem sub8_are (a b : Byte) (cin : Bool) :
    (sub8 a b cin).2.Are (128 ≤ (sub8 a b cin).1.toNat) ((sub8 a b cin).1.toNat = 0)
      (a.toNat % 16 < b.toNat % 16 + cin.toNat)
      (a.toInt - b.toInt - cin.toNat < -128 ∨ 127 < a.toInt - b.toInt - cin.toNat)
      True (a.toNat < b.toNat + cin.toNat) := by
  have ha := a.isLt
  have hb := b.isLt
  have hc : cin.toNat ≤ 1 := Bool.toNat_le cin
  have hr := sub8_toNat a b cin
  have e : (sub8 a b cin).1 = BitVec.ofInt 8 ((a.toNat : Int) - b.toNat - cin.toNat) := rfl
  rw [e] at hr ⊢
  refine ⟨?_, ?_, ?_, ?_, ?_, ?_⟩ <;>
    simp only [sub8, byte_msb, byte_zero, Bool.and_eq_true, bne_iff_ne, ne_eq,
      decide_eq_true_eq, decide_eq_decide, byte_toInt]
  · omega
  · generalize (BitVec.ofInt 8 ((a.toNat : Int) - b.toNat - cin.toNat)).toNat = r at hr ⊢
    split <;> split <;> omega
  · omega

theorem logicFlags_are (v : Byte) (h : Bool) :
    (logicFlags v h).Are (128 ≤ v.toNat) (v.toNat = 0) (h = true) (EvenOnes v) False False := by
  refine ⟨?_, ?_, ?_, ?_, ?_, ?_⟩ <;>
    simp only [logicFlags, byte_msb, byte_zero, parity8_iff, decide_eq_true_eq, Bool.false_eq_true]

theorem szpFlags_are (v : Byte) (c : Bool) :
    (szpFlags v c).Are (128 ≤ v.toNat) (v.toNat = 0) False (EvenOnes v) False (c = true) := by
  refine ⟨?_, ?_, ?_, ?_, ?_, ?_⟩ <;>
    simp only [szpFlags, byte_msb, byte_zero, parity8_iff, decide_eq_true_eq, Bool.false_eq_true]

theorem inc8_are (v : Byte) (c : Bool) :
    (inc8 v c).1.toNat = (v.toNat + 1) % 256 ∧
      (inc8 v c).2.Are (128 ≤ (inc8 v c).1.toNat) ((inc8 v c).1.toNat = 0) (v.toNat % 16 = 15) (v.toInt + 1 = 128)
        False (c = true) := by
  have hv := v.isLt
  refine ⟨by simp [inc8], ?_, ?_, ?_, ?_, ?_, ?_⟩ <;> simp only [inc8, byte_msb, byte_zero, decide_eq_true_eq]
  · simp
  · rw [beq_iff_eq, byte_toInt, BitVec.toNat_eq]
    simp only [BitVec.toNat_ofNat]
    split <;> omega
  · simp

theorem dec8_are (v : Byte) (c : Bool) :
    (dec8 v c).1.toNat = (v.toNat + 255) % 256 ∧
      (dec8 v c).2.Are (128 ≤ (dec8 v c).1.toNat) ((dec8 v c).1.toNat = 0) (v.toNat % 16 = 0) (v.toInt - 1 = -129)
        True (c = true) := by
  have hv := v.isLt
  refine ⟨by simp [dec8, BitVec.toNat_sub]; omega, ?_, ?_, ?_, ?_, ?_, ?_⟩ <;>
    simp only [dec8, byte_msb, byte_zero, decide_eq_true_eq]
  · simp
  · rw [beq_iff_eq, byte_toInt, BitVec.toNat_eq]
    simp only [BitVec.toNat_ofNat]
    split <;> omega

theorem rot8_bit (op : RotOp) (v : Byte) (cin : Bool) :
    (∀ k, k < 8 → (rot8 op v cin).1.getLsbD k = rotBit op v cin k) ∧ (rot8 op v cin).2 = rotOut op v := by
  cases op <;> cases cin <;> revert v <;> decide +kernel

theorem bitFlags_are (b : BitVec 3) (v : Byte) (c : Bool) :
    (bitFlags b v c).Are (b = 7#3 ∧ v.getLsbD 7 = true) (v.getLsbD b.toNat = false) True (v.getLsbD b.toNat = false)
      False (c = true) := by
  refine ⟨?_, ?_, ?_, ?_, ?_, ?_⟩ <;> simp [bitFlags]
  rintro rfl; rfl

theorem setBit8_bit (b : BitVec 3) (v : Byte) (k : Nat) (hk : k < 8) :
    (setBit8 b v).getLsbD k = (decide (k = b.toNat) || v.getLsbD k) := by
  have : ∀ b : BitVec 3, ∀ v : Byte, ∀ k < 8, (setBit8 b v).getLsbD k = (decide (k = b.toNat) || v.getLsbD k) := by
    decide +kernel
  exact this b v k hk

theorem resBit8_bit (b : BitVec 3) (v : Byte) (k : Nat) (hk : k < 8) :
    (resBit8 b v).getLsbD k = (!decide (k = b.toNat) && v.getLsbD k) := by
  have : ∀ b : BitVec 3, ∀ v : Byte, ∀ k < 8, (resBit8 b v).getLsbD k = (!decide (k = b.toNat) && v.getLsbD k) := by
    decide +kernel
  exact this b v k hk

theorem add16_spec (a b : Word) :
    (add16 a b).1.toNat = (a.toNat + b.toNat) % 65536 ∧
      ((add16 a b).2.1 = true ↔ 4095 < a.toNat % 4096 + b.toNat % 4096) ∧
      ((add16 a b).2.2 = true ↔ 65535 < a.toNat + b.toNat) := by
  simp [add16]

theorem adc16_are (a b : Word) (cin : Bool) :
    (adc16 a b cin).1.toNat = (a.toNat + b.toNat + cin.toNat) % 65536 ∧
      (adc16 a b cin).2.Are (32768 ≤ (adc16 a b cin).1.toNat) ((adc16 a b cin).1.toNat = 0)
        (4095 < a.toNat % 4096 + b.toNat % 4096 + cin.toNat)
        (a.toInt + b.toInt + cin.toNat < -32768 ∨ 32767 < a.toInt + b.toInt + cin.toNat)
        False (65535 < a.toNat + b.toNat + cin.toNat) := by
  have ha := a.isLt
  have hb := b.isLt
  have hc : cin.toNat ≤ 1 := Bool.toNat_le cin
  have hr : (adc16 a b cin).1.toNat = (a.toNat + b.toNat + cin.toNat) % 65536 := by simp [adc16]
  refine ⟨hr, ?_, ?_, ?_, ?_, ?_, ?_⟩ <;>
    simp only [adc16, word_msb, word_zero, BitVec.toNat_ofNat, Bool.and_eq_true, bne_iff_ne, beq_iff_eq, ne_eq,
      decide_eq_true_eq, decide_eq_decide, word_toInt, gt_iff_lt] at hr ⊢
  · split <;> split <;> omega
  · simp

theorem sbc16_are (a b : Word) (cin : Bool) :
    ((sbc16 a b cin).1.toNat : Int) = ((a.toNat : Int) - b.toNat - cin.toNat) % 65536 ∧
      (sbc16 a b cin).2.Are (32768 ≤ (sbc16 a b cin).1.toNat) ((sbc16 a b cin).1.toNat = 0)
        (a.toNat % 4096 < b.toNat % 4096 + cin.toNat)
        (a.toInt - b.toInt - cin.toNat < -32768 ∨ 32767 < a.toInt - b.toInt - cin.toNat)
        True (a.toNat < b.toNat + cin.toNat) := by
  have ha := a.isLt
  have hb := b.isLt
  have hc : cin.toNat ≤ 1 := Bool.toNat_le cin
  have e : (sbc16 a b cin).1 = BitVec.ofInt 16 ((a.toNat : Int) - b.toNat - cin.toNat) := rfl
  have hr : ((sbc16 a b cin).1.toNat : Int) = ((a.toNat : Int) - b.toNat - cin.toNat) % 65536 := by
    simp only [sbc16, BitVec.toNat_ofInt]
    omega
  refine ⟨hr, ?_⟩
  rw [e] at hr ⊢
  refine ⟨?_, ?_, ?_, ?_, ?_, ?_⟩ <;>
    simp only [sbc16, word_msb, word_zero, Bool.and_eq_true, bne_iff_ne, ne_eq,
      decide_eq_true_eq, decide_eq_decide, word_toInt]
  · omega
  · generalize (BitVec.ofInt 16 ((a.toNat : Int) - b.toNat - cin.toNat)).toNat = r at hr ⊢
    split <;> split <;> omega
  · omega

end Sys2Proof.Machine
end

