-- ==== Sys2Proof/Laws/Settings.lean ====
section
/-! SUPPORT. The numerals of a boot option: the strings rule R557 of 60_exceptions.md calls numerals are the decimal
numerals of the library, and the model reads and writes their values as the library does. -/

namespace Sys2Proof.Machine

theorem isDigit_digitChar {d : Nat} (h : d < 10) : isDigit (Nat.digitChar d) = true := by
  interval_cases d <;> decide

theorem digitChar_of_isDigit {c : Char} (h : isDigit c = true) :
    c.toNat - 48 < 10 ∧ Nat.digitChar (c.toNat - 48) = c := by
  simp only [isDigit, Bool.and_eq_true, decide_eq_true_eq] at h
  have hd : c.toNat - 48 < 10 := by omega
  refine ⟨hd, Char.ext (UInt32.toNat_inj.1 ?_)⟩
  have := Nat.toNat_digitChar_of_lt_ten hd
  change (Nat.digitChar (c.toNat - 48)).toNat = c.toNat
  omega

theorem numeralValue_append (ds : List Char) (c : Char) :
    numeralValue (ds ++ [c]) = numeralValue ds * 10 + (c.toNat - 48) := by
  simp [numeralValue, List.foldl_append]

/-- A decimal numeral has the value it was made of. -/
theorem numeralValue_toDigits (n : Nat) : numeralValue (Nat.toDigits 10 n) = n := by
  induction n using Nat.strongRecOn with
  | ind n ih =>
    by_cases h : n < 10
    · rw [Nat.toDigits_of_lt_base h]
      have := Nat.toNat_digitChar_of_lt_ten h
      simp [numeralValue]; omega
    · rw [Nat.toDigits_of_base_le (by decide) (by omega), numeralValue_append, ih _ (by omega)]
      have := Nat.toNat_digitChar_of_lt_ten (n := n % 10) (by omega)
      omega

/-- A decimal numeral is a string of digits, and only that of 0 starts with 0. -/
theorem toDigits_digits (n : Nat) :
    (Nat.toDigits 10 n).all isDigit = true ∧ ∃ c cs, Nat.toDigits 10 n = c :: cs ∧ (n ≠ 0 → c ≠ '0') := by
  induction n using Nat.strongRecOn with
  | ind n ih =>
    by_cases h : n < 10
    · rw [Nat.toDigits_of_lt_base h]
      refine ⟨by simp [isDigit_digitChar h], _, _, rfl, fun h0 => ?_⟩
      interval_cases n <;> simp_all
    · obtain ⟨hall, c, cs, he, hz⟩ := ih (n / 10) (by omega)
      rw [Nat.toDigits_of_base_le (by decide) (by omega)]
      have hd := isDigit_digitChar (Nat.mod_lt n (show 0 < 10 by decide))
      exact ⟨by simp [hall, hd], c, cs ++ [_], by rw [he]; rfl, fun _ => hz (by omega)⟩

/-- A decimal numeral is a numeral of rule R557. -/
theorem isNumeral_toDigits (n : Nat) : isNumeral (Nat.toDigits 10 n) = true := by
  obtain ⟨hall, c, cs, he, hz⟩ := toDigits_digits n
  by_cases h0 : n = 0
  · subst h0; decide
  · rw [he] at hall ⊢
    simp only [isNumeral, isNumber, hall, List.isEmpty_cons, List.headD_cons, Bool.not_false, Bool.true_and,
      Bool.or_eq_true]
    exact .inr (by simpa using hz h0)

/-- A string of digits whose first digit is not 0 is the decimal numeral of its value. -/
theorem toDigits_numeralValue {cs : List Char} (hall : cs.all isDigit = true) (hne : cs ≠ [])
    (hz : cs.headD '0' ≠ '0') : Nat.toDigits 10 (numeralValue cs) = cs := by
  induction cs using List.reverseRecOn with
  | nil => exact absurd rfl hne
  | append_singleton ds c ih =>
    simp only [List.all_append, List.all_cons, List.all_nil, Bool.and_true, Bool.and_eq_true] at hall
    obtain ⟨hd, hc⟩ := digitChar_of_isDigit hall.2
    rw [numeralValue_append]
    cases ds with
    | nil => rw [show numeralValue [] = 0 from rfl, Nat.zero_mul, Nat.zero_add, Nat.toDigits_of_lt_base hd, hc]; rfl
    | cons x xs =>
      have hi := ih hall.1 (by simp) (by simpa using hz)
      have hpos : 0 < numeralValue (x :: xs) := by
        rcases Nat.eq_zero_or_pos (numeralValue (x :: xs)) with h | h
        · rw [h] at hi
          simp only [List.cons_append, List.headD_cons] at hz
          have hx : '0' = x := (List.cons.inj hi).1
          exact absurd hx.symm hz
        · exact h
      rw [Nat.mul_comm, ← Nat.toDigits_append_toDigits (by decide) hpos hd, hi, Nat.toDigits_of_lt_base hd, hc]

/-- The numerals of rule R557 are the decimal numerals. -/
theorem isNumeral_iff {cs : List Char} : isNumeral cs = true ↔ cs = Nat.toDigits 10 (numeralValue cs) := by
  refine ⟨fun h => ?_, fun h => h ▸ isNumeral_toDigits _⟩
  simp only [isNumeral, isNumber, Bool.or_eq_true, beq_iff_eq, Bool.and_eq_true, Bool.not_eq_true', bne_iff_ne] at h
  rcases h with rfl | ⟨⟨hne, hall⟩, hz⟩
  · rfl
  · exact (toDigits_numeralValue hall (by simpa using hne) hz).symm

/-- A string with no full stop is its own part before the first one. -/
theorem splitAtDot_of_digits {cs : List Char} (h : cs.all isDigit = true) : splitAtDot cs = (cs, none) := by
  induction cs with
  | nil => rfl
  | cons c cs ih =>
    simp only [List.all_cons, Bool.and_eq_true] at h
    have hc : c ≠ '.' := by rintro rfl; exact absurd h.1 (by decide)
    unfold splitAtDot
    simp [ih h.2]

theorem splitAtDot_of_digits_append {cs : List Char} (h : cs.all isDigit = true) (ds : List Char) :
    splitAtDot (cs ++ '.' :: ds) = (cs, some ds) := by
  induction cs with
  | nil => rfl
  | cons c cs ih =>
    simp only [List.all_cons, Bool.and_eq_true] at h
    have hc : c ≠ '.' := by rintro rfl; exact absurd h.1 (by decide)
    simp only [List.cons_append]
    unfold splitAtDot
    simp [ih h.2]

theorem splitAtDot_dot (cs : List Char) : splitAtDot ('.' :: cs) = ([], some cs) := rfl

theorem splitAtDot_cons {c : Char} (hc : c ≠ '.') (cs : List Char) :
    splitAtDot (c :: cs) = (c :: (splitAtDot cs).1, (splitAtDot cs).2) := by
  conv_lhs => unfold splitAtDot
  simp

/-- Splitting at the first full stop loses nothing but it. -/
theorem splitAtDot_join (cs : List Char) :
    cs = (splitAtDot cs).1 ++ ((splitAtDot cs).2.elim [] fun t => '.' :: t) := by
  induction cs with
  | nil => rfl
  | cons c cs ih =>
    by_cases hc : c = '.'
    · subst hc; rfl
    · rw [splitAtDot_cons hc]; exact congrArg (c :: ·) ih

end Sys2Proof.Machine
end

