-- ==== Sys2Proof/Tests/Slice0.lean ====
section
/-! SUPPORT. Tests: decoding of words written from the spec's bit patterns, single steps with the results of
95_test_vectors.md, the checks of a configuration, and the witnesses for the hypotheses of the statements. -/

set_option Elab.async false

namespace Sys2Proof.Tests

open Sys2Proof Sys2Proof.Machine

/-- The machine of the instruction vectors of 95_test_vectors.md: every address writable (the map [16, 31] of the test
instance), some bytes in memory, and the CPU as given. -/
def flat (cells : List (Nat × Nat)) (cpu : Cpu) : State :=
  cells.foldl (fun s c => s.writeByte (BitVec.ofNat 16 c.1) (BitVec.ofNat 8 c.2))
    { State.reset with mem := { State.reset.mem with map := [16, 31] }, cpu := cpu }

/-- One step reaches a state of which `p` holds. -/
def steps (s : State) (p : State → Bool) : Bool :=
  match step s with
  | .next t => p t
  | .fault _ => false
  | .refused _ => false

/-- The six flags of a state: S, Z, H, P/V, N, C. -/
def hasFlags (t : State) (s z h pv n c : Bool) : Bool :=
  t.cpu.f.s == s && t.cpu.f.z == z && t.cpu.f.h == h && t.cpu.f.pv == pv && t.cpu.f.n == n && t.cpu.f.c == c

/-! ### Decoding -/

/-- Words written from the bit patterns of 40_load8.md. -/
theorem test_decode_load8_1 :
    decodeTableWord 8 0b01000001 = some (.ldRR .b .c) ∧
    decodeTableWord 16 0b0001011010000000 = some (.ldRN .d 0x80#8) ∧
    decodeTableWord 8 0b01011110 = some (.ldRHl .e) ∧
    decodeTableWord 24 0b110111010110011001111111 = some (.ldRIxd .h 0x7F#8) ∧
    decodeTableWord 24 0b111111010110111010100101 = some (.ldRIyd .l 0xA5#8) ∧
    decodeTableWord 8 0b01110111 = some (.ldHlR .a) ∧
    decodeTableWord 24 0b110111010111000000000001 = some (.ldIxdR 0x01#8 .b) ∧
    decodeTableWord 24 0b111111010111000111111110 = some (.ldIydR 0xFE#8 .c) ∧
    decodeTableWord 16 0b0011011001011010 = some (.ldHlN 0x5A#8) ∧
    decodeTableWord 32 0b11011101001101101000000001111111 = some (.ldIxdN 0x80#8 0x7F#8) ∧
    decodeTableWord 32 0b11111101001101101010010100000001 = some (.ldIydN 0xA5#8 0x01#8) ∧
    decodeTableWord 8 0b00001010 = some .ldABc ∧
    decodeTableWord 8 0b00011010 = some .ldADe ∧
    decodeTableWord 24 0b001110100011010000010010 = some (.ldANn 0x1234#16) ∧
    decodeTableWord 8 0b00000010 = some .ldBcA ∧
    decodeTableWord 8 0b00010010 = some .ldDeA ∧
    decodeTableWord 24 0b001100101100110110101011 = some (.ldNnA 0xABCD#16) ∧
    decodeTableWord 16 0b1110110101010111 = some .ldAI := by
  decide +kernel

/-- Words written from the bit patterns of 40_load8.md. -/
theorem test_decode_load8_2 :
    decodeTableWord 16 0b1110110101011111 = some .ldARefresh ∧
    decodeTableWord 16 0b1110110101000111 = some .ldIA ∧
    decodeTableWord 16 0b1110110101001111 = some .ldRefreshA := by
  decide +kernel

/-- Words written from the bit patterns of 41_load16.md. -/
theorem test_decode_load16_1 :
    decodeTableWord 24 0b000000010000000110000000 = some (.ldDdNn .bc 0x8001#16) ∧
    decodeTableWord 32 0b11011101001000011111111011111111 = some (.ldIxNn 0xFFFE#16) ∧
    decodeTableWord 32 0b11111101001000010011010000010010 = some (.ldIyNn 0x1234#16) ∧
    decodeTableWord 24 0b001010101100110110101011 = some (.ldHlMem 0xABCD#16) ∧
    decodeTableWord 32 0b11101101010110110000000110000000 = some (.ldDdMem .de 0x8001#16) ∧
    decodeTableWord 32 0b11011101001010101111111011111111 = some (.ldIxMem 0xFFFE#16) ∧
    decodeTableWord 32 0b11111101001010100011010000010010 = some (.ldIyMem 0x1234#16) ∧
    decodeTableWord 24 0b001000101100110110101011 = some (.ldMemHl 0xABCD#16) ∧
    decodeTableWord 32 0b11101101011000110000000110000000 = some (.ldMemDd 0x8001#16 .hl) ∧
    decodeTableWord 32 0b11011101001000101111111011111111 = some (.ldMemIx 0xFFFE#16) ∧
    decodeTableWord 32 0b11111101001000100011010000010010 = some (.ldMemIy 0x1234#16) ∧
    decodeTableWord 8 0b11111001 = some .ldSpHl ∧
    decodeTableWord 16 0b1101110111111001 = some .ldSpIx ∧
    decodeTableWord 16 0b1111110111111001 = some .ldSpIy ∧
    decodeTableWord 8 0b11000101 = some (.pushQq .bc) ∧
    decodeTableWord 16 0b1101110111100101 = some .pushIx ∧
    decodeTableWord 16 0b1111110111100101 = some .pushIy ∧
    decodeTableWord 8 0b11010001 = some (.popQq .de) := by
  decide +kernel

/-- Words written from the bit patterns of 41_load16.md. -/
theorem test_decode_load16_2 :
    decodeTableWord 16 0b1101110111100001 = some .popIx ∧
    decodeTableWord 16 0b1111110111100001 = some .popIy := by
  decide +kernel

/-- Words written from the bit patterns of 42_exchange_block.md. -/
theorem test_decode_exchange_block :
    decodeTableWord 8 0b11101011 = some .exDeHl ∧
    decodeTableWord 8 0b00001000 = some .exAfAf ∧
    decodeTableWord 8 0b11011001 = some .exx ∧
    decodeTableWord 8 0b11100011 = some .exSpHl ∧
    decodeTableWord 16 0b1101110111100011 = some .exSpIx ∧
    decodeTableWord 16 0b1111110111100011 = some .exSpIy ∧
    decodeTableWord 16 0b1110110110100000 = some .ldi ∧
    decodeTableWord 16 0b1110110110110000 = some .ldir ∧
    decodeTableWord 16 0b1110110110101000 = some .ldd ∧
    decodeTableWord 16 0b1110110110111000 = some .lddr ∧
    decodeTableWord 16 0b1110110110100001 = some .cpi ∧
    decodeTableWord 16 0b1110110110110001 = some .cpir ∧
    decodeTableWord 16 0b1110110110101001 = some .cpd ∧
    decodeTableWord 16 0b1110110110111001 = some .cpdr := by
  decide +kernel

/-- Words written from the bit patterns of 43_arith8.md. -/
theorem test_decode_arith8_1 :
    decodeTableWord 8 0b10000010 = some (.addAR .d) ∧
    decodeTableWord 16 0b1100011011111110 = some (.addAN 0xFE#8) ∧
    decodeTableWord 8 0b10000110 = some .addAHl ∧
    decodeTableWord 24 0b110111011000011001011010 = some (.addAIxd 0x5A#8) ∧
    decodeTableWord 24 0b111111011000011010000000 = some (.addAIyd 0x80#8) ∧
    decodeTableWord 8 0b10001011 = some (.adcAR .e) ∧
    decodeTableWord 16 0b1100111001111111 = some (.adcAN 0x7F#8) ∧
    decodeTableWord 8 0b10001110 = some .adcAHl ∧
    decodeTableWord 24 0b110111011000111010100101 = some (.adcAIxd 0xA5#8) ∧
    decodeTableWord 24 0b111111011000111000000001 = some (.adcAIyd 0x01#8) ∧
    decodeTableWord 8 0b10010100 = some (.subR .h) ∧
    decodeTableWord 16 0b1101011011111110 = some (.subN 0xFE#8) ∧
    decodeTableWord 8 0b10010110 = some .subHl ∧
    decodeTableWord 24 0b110111011001011001011010 = some (.subIxd 0x5A#8) ∧
    decodeTableWord 24 0b111111011001011010000000 = some (.subIyd 0x80#8) ∧
    decodeTableWord 8 0b10011101 = some (.sbcAR .l) ∧
    decodeTableWord 16 0b1101111001111111 = some (.sbcAN 0x7F#8) ∧
    decodeTableWord 8 0b10011110 = some .sbcAHl := by
  decide +kernel

/-- Words written from the bit patterns of 43_arith8.md. -/
theorem test_decode_arith8_2 :
    decodeTableWord 24 0b110111011001111010100101 = some (.sbcAIxd 0xA5#8) ∧
    decodeTableWord 24 0b111111011001111000000001 = some (.sbcAIyd 0x01#8) ∧
    decodeTableWord 8 0b10100111 = some (.andR .a) ∧
    decodeTableWord 16 0b1110011011111110 = some (.andN 0xFE#8) ∧
    decodeTableWord 8 0b10100110 = some .andHl ∧
    decodeTableWord 24 0b110111011010011001011010 = some (.andIxd 0x5A#8) ∧
    decodeTableWord 24 0b111111011010011010000000 = some (.andIyd 0x80#8) ∧
    decodeTableWord 8 0b10101000 = some (.xorR .b) ∧
    decodeTableWord 16 0b1110111001111111 = some (.xorN 0x7F#8) ∧
    decodeTableWord 8 0b10101110 = some .xorHl ∧
    decodeTableWord 24 0b110111011010111010100101 = some (.xorIxd 0xA5#8) ∧
    decodeTableWord 24 0b111111011010111000000001 = some (.xorIyd 0x01#8) ∧
    decodeTableWord 8 0b10110001 = some (.orR .c) ∧
    decodeTableWord 16 0b1111011011111110 = some (.orN 0xFE#8) ∧
    decodeTableWord 8 0b10110110 = some .orHl ∧
    decodeTableWord 24 0b110111011011011001011010 = some (.orIxd 0x5A#8) ∧
    decodeTableWord 24 0b111111011011011010000000 = some (.orIyd 0x80#8) ∧
    decodeTableWord 8 0b10111010 = some (.cpR .d) := by
  decide +kernel

/-- Words written from the bit patterns of 43_arith8.md. -/
theorem test_decode_arith8_3 :
    decodeTableWord 16 0b1111111001111111 = some (.cpN 0x7F#8) ∧
    decodeTableWord 8 0b10111110 = some .cpHl ∧
    decodeTableWord 24 0b110111011011111010100101 = some (.cpIxd 0xA5#8) ∧
    decodeTableWord 24 0b111111011011111000000001 = some (.cpIyd 0x01#8) ∧
    decodeTableWord 8 0b00011100 = some (.incR .e) ∧
    decodeTableWord 8 0b00110100 = some .incHl ∧
    decodeTableWord 24 0b110111010011010011111110 = some (.incIxd 0xFE#8) ∧
    decodeTableWord 24 0b111111010011010001011010 = some (.incIyd 0x5A#8) ∧
    decodeTableWord 8 0b00100101 = some (.decR .h) ∧
    decodeTableWord 8 0b00110101 = some .decHl ∧
    decodeTableWord 24 0b110111010011010110000000 = some (.decIxd 0x80#8) ∧
    decodeTableWord 24 0b111111010011010101111111 = some (.decIyd 0x7F#8) := by
  decide +kernel

/-- Words written from the bit patterns of 44_general_cpu_control.md. -/
theorem test_decode_general_cpu_control :
    decodeTableWord 8 0b00100111 = some .daa ∧
    decodeTableWord 8 0b00101111 = some .cpl ∧
    decodeTableWord 16 0b1110110101000100 = some .neg ∧
    decodeTableWord 8 0b00111111 = some .ccf ∧
    decodeTableWord 8 0b00110111 = some .scf ∧
    decodeTableWord 8 0b00000000 = some .nop ∧
    decodeTableWord 8 0b01110110 = some .halt ∧
    decodeTableWord 8 0b11110011 = some .di ∧
    decodeTableWord 8 0b11111011 = some .ei ∧
    decodeTableWord 16 0b1110110101000110 = some .im0 ∧
    decodeTableWord 16 0b1110110101010110 = some .im1 ∧
    decodeTableWord 16 0b1110110101011110 = some .im2 := by
  decide +kernel

/-- Words written from the bit patterns of 45_arith16.md. -/
theorem test_decode_arith16 :
    decodeTableWord 8 0b00111001 = some (.addHlSs .sp) ∧
    decodeTableWord 16 0b1110110101001010 = some (.adcHlSs .bc) ∧
    decodeTableWord 16 0b1110110101010010 = some (.sbcHlSs .de) ∧
    decodeTableWord 16 0b1101110100001001 = some (.addIxPp .bc) ∧
    decodeTableWord 16 0b1111110100011001 = some (.addIyRr .de) ∧
    decodeTableWord 8 0b00100011 = some (.incSs .hl) ∧
    decodeTableWord 8 0b00111011 = some (.decSs .sp) ∧
    decodeTableWord 16 0b1101110100100011 = some .incIx ∧
    decodeTableWord 16 0b1101110100101011 = some .decIx ∧
    decodeTableWord 16 0b1111110100100011 = some .incIy ∧
    decodeTableWord 16 0b1111110100101011 = some .decIy := by
  decide +kernel

/-- Words written from the bit patterns of 46_rotate_shift.md. -/
theorem test_decode_rotate_shift_1 :
    decodeTableWord 8 0b00000111 = some .rlca ∧
    decodeTableWord 8 0b00010111 = some .rla ∧
    decodeTableWord 8 0b00001111 = some .rrca ∧
    decodeTableWord 8 0b00011111 = some .rra ∧
    decodeTableWord 16 0b1100101100000101 = some (.rlcR .l) ∧
    decodeTableWord 16 0b1100101100000110 = some .rlcHl ∧
    decodeTableWord 32 0b11011101110010111010010100000110 = some (.rlcIxd 0xA5#8) ∧
    decodeTableWord 32 0b11111101110010110000000100000110 = some (.rlcIyd 0x01#8) ∧
    decodeTableWord 16 0b1100101100001111 = some (.rrcR .a) ∧
    decodeTableWord 16 0b1100101100001110 = some .rrcHl ∧
    decodeTableWord 32 0b11011101110010111111111000001110 = some (.rrcIxd 0xFE#8) ∧
    decodeTableWord 32 0b11111101110010110101101000001110 = some (.rrcIyd 0x5A#8) ∧
    decodeTableWord 16 0b1100101100010000 = some (.rlR .b) ∧
    decodeTableWord 16 0b1100101100010110 = some .rlHl ∧
    decodeTableWord 32 0b11011101110010111000000000010110 = some (.rlIxd 0x80#8) ∧
    decodeTableWord 32 0b11111101110010110111111100010110 = some (.rlIyd 0x7F#8) ∧
    decodeTableWord 16 0b1100101100011001 = some (.rrR .c) ∧
    decodeTableWord 16 0b1100101100011110 = some .rrHl := by
  decide +kernel

/-- Words written from the bit patterns of 46_rotate_shift.md. -/
theorem test_decode_rotate_shift_2 :
    decodeTableWord 32 0b11011101110010111010010100011110 = some (.rrIxd 0xA5#8) ∧
    decodeTableWord 32 0b11111101110010110000000100011110 = some (.rrIyd 0x01#8) ∧
    decodeTableWord 16 0b1100101100100010 = some (.slaR .d) ∧
    decodeTableWord 16 0b1100101100100110 = some .slaHl ∧
    decodeTableWord 32 0b11011101110010111111111000100110 = some (.slaIxd 0xFE#8) ∧
    decodeTableWord 32 0b11111101110010110101101000100110 = some (.slaIyd 0x5A#8) ∧
    decodeTableWord 16 0b1100101100101011 = some (.sraR .e) ∧
    decodeTableWord 16 0b1100101100101110 = some .sraHl ∧
    decodeTableWord 32 0b11011101110010111000000000101110 = some (.sraIxd 0x80#8) ∧
    decodeTableWord 32 0b11111101110010110111111100101110 = some (.sraIyd 0x7F#8) ∧
    decodeTableWord 16 0b1100101100111100 = some (.srlR .h) ∧
    decodeTableWord 16 0b1100101100111110 = some .srlHl ∧
    decodeTableWord 32 0b11011101110010111010010100111110 = some (.srlIxd 0xA5#8) ∧
    decodeTableWord 32 0b11111101110010110000000100111110 = some (.srlIyd 0x01#8) ∧
    decodeTableWord 16 0b1110110101101111 = some .rld ∧
    decodeTableWord 16 0b1110110101100111 = some .rrd := by
  decide +kernel

/-- Words written from the bit patterns of 47_bit.md. -/
theorem test_decode_bit :
    decodeTableWord 16 0b1100101101111101 = some (.bitBR 7#3 .l) ∧
    decodeTableWord 16 0b1100101101010110 = some (.bitBHl 2#3) ∧
    decodeTableWord 32 0b11011101110010111111111001101110 = some (.bitBIxd 5#3 0xFE#8) ∧
    decodeTableWord 32 0b11111101110010110101101001000110 = some (.bitBIyd 0#3 0x5A#8) ∧
    decodeTableWord 16 0b1100101111110111 = some (.setBR 6#3 .a) ∧
    decodeTableWord 16 0b1100101111111110 = some (.setBHl 7#3) ∧
    decodeTableWord 32 0b11011101110010111000000011010110 = some (.setBIxd 2#3 0x80#8) ∧
    decodeTableWord 32 0b11111101110010110111111111101110 = some (.setBIyd 5#3 0x7F#8) ∧
    decodeTableWord 16 0b1100101110000000 = some (.resBR 0#3 .b) ∧
    decodeTableWord 16 0b1100101110110110 = some (.resBHl 6#3) ∧
    decodeTableWord 32 0b11011101110010111010010110111110 = some (.resBIxd 7#3 0xA5#8) ∧
    decodeTableWord 32 0b11111101110010110000000110010110 = some (.resBIyd 2#3 0x01#8) := by
  decide +kernel

/-- Words written from the bit patterns of 48_jump_call_return.md. -/
theorem test_decode_jump_call_return :
    decodeTableWord 24 0b110000111100110110101011 = some (.jpNn 0xABCD#16) ∧
    decodeTableWord 24 0b110000100000000110000000 = some (.jpCcNn .nz 0x8001#16) ∧
    decodeTableWord 16 0b0001100011111110 = some (.jrE 0xFE#8) ∧
    decodeTableWord 16 0b0011100001011010 = some (.jrCE 0x5A#8) ∧
    decodeTableWord 16 0b0011000010000000 = some (.jrNcE 0x80#8) ∧
    decodeTableWord 16 0b0010100001111111 = some (.jrZE 0x7F#8) ∧
    decodeTableWord 16 0b0010000010100101 = some (.jrNzE 0xA5#8) ∧
    decodeTableWord 8 0b11101001 = some .jpHl ∧
    decodeTableWord 16 0b1101110111101001 = some .jpIx ∧
    decodeTableWord 16 0b1111110111101001 = some .jpIy ∧
    decodeTableWord 16 0b0001000000000001 = some (.djnzE 0x01#8) ∧
    decodeTableWord 24 0b110011011111111011111111 = some (.callNn 0xFFFE#16) ∧
    decodeTableWord 24 0b110011000011010000010010 = some (.callCcNn .z 0x1234#16) ∧
    decodeTableWord 8 0b11001001 = some .ret ∧
    decodeTableWord 8 0b11010000 = some (.retCc .nc) ∧
    decodeTableWord 16 0b1110110101001101 = some .reti ∧
    decodeTableWord 16 0b1110110101000101 = some .retn ∧
    decodeTableWord 8 0b11101111 = some (.rstP 5#3) := by
  decide +kernel

/-- Words written from the bit patterns of 49_io.md. -/
theorem test_decode_io :
    decodeTableWord 16 0b1101101111111110 = some (.inAN 0xFE#8) ∧
    decodeTableWord 16 0b1110110101001000 = some (.inRC .c) ∧
    decodeTableWord 16 0b1110110110100010 = some .ini ∧
    decodeTableWord 16 0b1110110110110010 = some .inir ∧
    decodeTableWord 16 0b1110110110101010 = some .ind ∧
    decodeTableWord 16 0b1110110110111010 = some .indr ∧
    decodeTableWord 16 0b1101001101011010 = some (.outNA 0x5A#8) ∧
    decodeTableWord 16 0b1110110101010001 = some (.outCR .d) ∧
    decodeTableWord 16 0b1110110110100011 = some .outi ∧
    decodeTableWord 16 0b1110110110110011 = some .otir ∧
    decodeTableWord 16 0b1110110110101011 = some .outd ∧
    decodeTableWord 16 0b1110110110111011 = some .otdr := by
  decide +kernel

/-! ### Single steps -/

/-- `LD H,80H` (95_test_vectors.md V40.3, rule R201). -/
theorem test_v40_3_ld_h_80h :
    steps (flat [(0x1000, 0x26), (0x1001, 0x80)]
      { Cpu.reset with pc := 0x1000#16 })
      (fun t =>
        t.cpu.h == 0x80#8 && t.cpu.pc == 0x1002#16) = true := by decide +kernel

/-- `LD A,(HL)` (95_test_vectors.md V40.4, rule R202): top of memory. -/
theorem test_v40_4_ld_a_hl :
    steps (flat [(0xFFFF, 0x42), (0x1000, 0x7E)]
      { Cpu.reset with pc := 0x1000#16, h := 0xFF#8, l := 0xFF#8 })
      (fun t =>
        t.cpu.a == 0x42#8 && t.cpu.pc == 0x1001#16) = true := by decide +kernel

/-- `LD A,(IX-128)` (95_test_vectors.md V40.5, rule R203): d = 0x80 is -128; address wraps below 0. -/
theorem test_v40_5_ld_a_ixminus128 :
    steps (flat [(0xFF90, 0x77), (0x1000, 0xDD), (0x1001, 0x7E), (0x1002, 0x80)]
      { Cpu.reset with pc := 0x1000#16, ix := 0x0010#16 })
      (fun t =>
        t.cpu.a == 0x77#8 && t.cpu.pc == 0x1003#16) = true := by decide +kernel

/-- `LD B,(IY+127)` (95_test_vectors.md V40.6, rule R204): d = 0x7F; address wraps above 0xFFFF. -/
theorem test_v40_6_ld_b_iyplus127 :
    steps (flat [(0x006F, 0x3C), (0x1000, 0xFD), (0x1001, 0x46), (0x1002, 0x7F)]
      { Cpu.reset with pc := 0x1000#16, iy := 0xFFF0#16 })
      (fun t =>
        t.cpu.b == 0x3C#8 && t.cpu.pc == 0x1003#16) = true := by decide +kernel

/-- `LD (IX+5),H` (95_test_vectors.md V40.8, rule R206): source is H, not the high half of IX. -/
theorem test_v40_8_ld_ixplus5_h :
    steps (flat [(0x1000, 0xDD), (0x1001, 0x74), (0x1002, 0x05)]
      { Cpu.reset with pc := 0x1000#16, h := 0x12#8, ix := 0x3000#16 })
      (fun t =>
        t.readByte 0x3005#16 == 0x12#8 && t.cpu.pc == 0x1003#16) = true := by decide +kernel

/-- `LD (IY-1),77H` (95_test_vectors.md V40.10, rule R210): d before n in the encoding; address 0xFFFF. -/
theorem test_v40_10_ld_iyminus1_77h :
    steps (flat [(0x1000, 0xFD), (0x1001, 0x36), (0x1002, 0xFF), (0x1003, 0x77)]
      { Cpu.reset with pc := 0x1000#16, iy := 0x0000#16 })
      (fun t =>
        t.readByte 0xFFFF#16 == 0x77#8 && t.cpu.pc == 0x1004#16) = true := by decide +kernel

/-- `LD (DE),A` (95_test_vectors.md V40.12, rule R215). -/
theorem test_v40_12_ld_de_a :
    steps (flat [(0x1000, 0x12)]
      { Cpu.reset with pc := 0x1000#16, a := 0x99#8, d := 0x20#8, e := 0x20#8 })
      (fun t =>
        t.readByte 0x2020#16 == 0x99#8 && t.cpu.pc == 0x1001#16) = true := by decide +kernel

/-- `LD A,(0FFFFH)` (95_test_vectors.md V40.13, rule R213): nn little-endian. -/
theorem test_v40_13_ld_a_0ffffh :
    steps (flat [(0xFFFF, 0x01), (0x1000, 0x3A), (0x1001, 0xFF), (0x1002, 0xFF)]
      { Cpu.reset with pc := 0x1000#16 })
      (fun t =>
        t.cpu.a == 0x01#8 && t.cpu.pc == 0x1003#16) = true := by decide +kernel

/-- `LD A,I` (95_test_vectors.md V40.15, rule R217): P/V = IFF2; S from I; C kept; H, N cleared. -/
theorem test_v40_15_ld_a_i :
    steps (flat [(0x1000, 0xED), (0x1001, 0x57)]
      { Cpu.reset with pc := 0x1000#16, i := 0x80#8, iff2 := true, f := Flags.ofByte 0x13#8 })
      (fun t =>
        t.cpu.a == 0x80#8 && t.cpu.pc == 0x1002#16 && hasFlags t true false false true false true) = true := by
  decide +kernel

/-- `LD A,R` (95_test_vectors.md V40.17, rule R218): R[6:0] wraps 0x7E+2 -> 0x00, R[7] kept; A gets the advanced value. -/
theorem test_v40_17_ld_a_r :
    steps (flat [(0x1000, 0xED), (0x1001, 0x5F)]
      { Cpu.reset with pc := 0x1000#16, iff2 := true, f := Flags.ofByte 0x00#8, r := 0xFE#8 })
      (fun t =>
        t.cpu.a == 0x80#8 && t.cpu.r == 0x80#8 && t.cpu.pc == 0x1002#16 &&
          hasFlags t true false false true false false) = true := by decide +kernel

/-- `LD R,A` (95_test_vectors.md V40.19, rule R220): all 8 bits of R loaded, after the increment. -/
theorem test_v40_19_ld_r_a :
    steps (flat [(0x1000, 0xED), (0x1001, 0x4F)]
      { Cpu.reset with pc := 0x1000#16, a := 0xFF#8, r := 0x10#8 })
      (fun t =>
        t.cpu.r == 0xFF#8 && t.cpu.pc == 0x1002#16) = true := by decide +kernel

/-- `LD BC,1234H` (95_test_vectors.md V41.1, rule R223): low byte first. -/
theorem test_v41_1_ld_bc_1234h :
    steps (flat [(0x1000, 0x01), (0x1001, 0x34), (0x1002, 0x12)]
      { Cpu.reset with pc := 0x1000#16 })
      (fun t =>
        t.cpu.b == 0x12#8 && t.cpu.c == 0x34#8 && t.cpu.pc == 0x1003#16) = true := by decide +kernel

/-- `LD HL,(0FFFFH)` (95_test_vectors.md V41.4, rule R226): second byte read from 0x0000. -/
theorem test_v41_4_ld_hl_0ffffh :
    steps (flat [(0xFFFF, 0x34), (0x0000, 0x12), (0x1000, 0x2A), (0x1001, 0xFF), (0x1002, 0xFF)]
      { Cpu.reset with pc := 0x1000#16 })
      (fun t =>
        t.cpu.h == 0x12#8 && t.cpu.l == 0x34#8 && t.cpu.pc == 0x1003#16) = true := by decide +kernel

/-- `LD (0FFFFH),SP` (95_test_vectors.md V41.9, rule R231): high byte written to 0x0000. -/
theorem test_v41_9_ld_0ffffh_sp :
    steps (flat [(0x1000, 0xED), (0x1001, 0x73), (0x1002, 0xFF), (0x1003, 0xFF)]
      { Cpu.reset with pc := 0x1000#16, sp := 0xABCD#16 })
      (fun t =>
        t.readByte 0xFFFF#16 == 0xCD#8 && t.readByte 0x0000#16 == 0xAB#8 && t.cpu.pc == 0x1004#16) = true := by
  decide +kernel

/-- `PUSH BC` (95_test_vectors.md V41.14, rule R237): SP wraps: high byte at 0x0000, low byte at 0xFFFF. -/
theorem test_v41_14_push_bc :
    steps (flat [(0x1000, 0xC5)]
      { Cpu.reset with pc := 0x1000#16, b := 0x12#8, c := 0x34#8, sp := 0x0001#16 })
      (fun t =>
        t.cpu.sp == 0xFFFF#16 && t.readByte 0x0000#16 == 0x12#8 && t.readByte 0xFFFF#16 == 0x34#8 &&
          t.cpu.pc == 0x1001#16) = true := by decide +kernel

/-- `PUSH AF` (95_test_vectors.md V41.15, rule R237): all 8 bits of F stored, bits 5 and 3 included. -/
theorem test_v41_15_push_af :
    steps (flat [(0x1000, 0xF5)]
      { Cpu.reset with pc := 0x1000#16, a := 0x12#8, f := Flags.ofByte 0xFF#8, sp := 0x8000#16 })
      (fun t =>
        t.cpu.sp == 0x7FFE#16 && t.readByte 0x7FFF#16 == 0x12#8 && t.readByte 0x7FFE#16 == 0xFF#8 &&
          t.cpu.pc == 0x1001#16) = true := by decide +kernel

/-- `POP AF` (95_test_vectors.md V41.16, rule R240): F loaded whole: bits 5 and 3 set, the six flags clear. -/
theorem test_v41_16_pop_af :
    steps (flat [(0x8000, 0x28), (0x8001, 0x9A), (0x1000, 0xF1)]
      { Cpu.reset with pc := 0x1000#16, sp := 0x8000#16 })
      (fun t =>
        t.cpu.a == 0x9A#8 && t.cpu.sp == 0x8002#16 && t.cpu.f == Flags.ofByte 0x28#8 && t.cpu.pc == 0x1001#16) = true := by
  decide +kernel

/-- `POP HL` (95_test_vectors.md V41.17, rule R240): SP wraps 0xFFFF -> 0x0001. -/
theorem test_v41_17_pop_hl :
    steps (flat [(0xFFFF, 0xCD), (0x0000, 0xAB), (0x1000, 0xE1)]
      { Cpu.reset with pc := 0x1000#16, sp := 0xFFFF#16 })
      (fun t =>
        t.cpu.h == 0xAB#8 && t.cpu.l == 0xCD#8 && t.cpu.sp == 0x0001#16 && t.cpu.pc == 0x1001#16) = true := by
  decide +kernel

/-- `EX AF,AF'` (95_test_vectors.md V42.2, rule R244): F swapped whole. -/
theorem test_v42_2_ex_af_af :
    steps (flat [(0x1000, 0x08)]
      { Cpu.reset with
        pc := 0x1000#16, a := 0x01#8, f := Flags.ofByte 0x02#8, shA := 0xFE#8, shF := Flags.ofByte 0xFD#8 })
      (fun t =>
        t.cpu.a == 0xFE#8 && t.cpu.shA == 0x01#8 && t.cpu.shF == Flags.ofByte 0x02#8 &&
          t.cpu.f == Flags.ofByte 0xFD#8 && t.cpu.pc == 0x1001#16) = true := by decide +kernel

/-- `EX (SP),HL` (95_test_vectors.md V42.4, rule R246): SP unchanged. -/
theorem test_v42_4_ex_sp_hl :
    steps (flat [(0x8000, 0x78), (0x8001, 0x56), (0x1000, 0xE3)]
      { Cpu.reset with pc := 0x1000#16, h := 0x12#8, l := 0x34#8, sp := 0x8000#16 })
      (fun t =>
        t.cpu.h == 0x56#8 && t.cpu.l == 0x78#8 && t.readByte 0x8001#16 == 0x12#8 &&
          t.readByte 0x8000#16 == 0x34#8 && t.cpu.pc == 0x1001#16) = true := by decide +kernel

/-- `LDI` (95_test_vectors.md V42.6, rule R249): BC becomes 0: P/V = 0; S, Z, C kept; H, N cleared. -/
theorem test_v42_6_ldi :
    steps (flat [(0x2000, 0x5A), (0x1000, 0xED), (0x1001, 0xA0)]
      { Cpu.reset with
        pc := 0x1000#16, h := 0x20#8, l := 0x00#8, d := 0x30#8, e := 0x00#8, b := 0x00#8, c := 0x01#8,
        f := Flags.ofByte 0xD7#8 })
      (fun t =>
        t.cpu.c == 0x00#8 && t.cpu.e == 0x01#8 && t.cpu.l == 0x01#8 && t.readByte 0x3000#16 == 0x5A#8 &&
          t.cpu.pc == 0x1002#16 && hasFlags t true true false false false true) = true := by decide +kernel

/-- `LDIR` (95_test_vectors.md V42.8, rule R250): one step = one iteration; BC != 0 so pc stays on the instruction. -/
theorem test_v42_8_ldir :
    steps (flat [(0x2000, 0x11), (0x2001, 0x22), (0x1000, 0xED), (0x1001, 0xB0)]
      { Cpu.reset with
        pc := 0x1000#16, h := 0x20#8, l := 0x00#8, d := 0x30#8, e := 0x00#8, b := 0x00#8, c := 0x02#8,
        f := Flags.ofByte 0x00#8 })
      (fun t =>
        t.cpu.c == 0x01#8 && t.cpu.e == 0x01#8 && t.cpu.l == 0x01#8 && t.readByte 0x3000#16 == 0x11#8 &&
          t.cpu.pc == 0x1000#16 && hasFlags t false false false true false false) = true := by decide +kernel

/-- `LDDR` (95_test_vectors.md V42.12, rule R252): last iteration; HL wraps 0 -> 0xFFFF. -/
theorem test_v42_12_lddr :
    steps (flat [(0x0000, 0x99), (0x1000, 0xED), (0x1001, 0xB8)]
      { Cpu.reset with
        pc := 0x1000#16, h := 0x00#8, l := 0x00#8, d := 0x30#8, e := 0x00#8, b := 0x00#8, c := 0x01#8,
        f := Flags.ofByte 0x00#8 })
      (fun t =>
        t.cpu.c == 0x00#8 && t.cpu.d == 0x2F#8 && t.cpu.e == 0xFF#8 && t.cpu.h == 0xFF#8 && t.cpu.l == 0xFF#8 &&
          t.readByte 0x3000#16 == 0x99#8 && t.cpu.pc == 0x1002#16 &&
          hasFlags t false false false false false false) = true := by decide +kernel

/-- `CPI` (95_test_vectors.md V42.13, rule R253): match: Z = 1; BC != 0: P/V = 1; C kept; N = 1. -/
theorem test_v42_13_cpi :
    steps (flat [(0x2000, 0x33), (0x1000, 0xED), (0x1001, 0xA1)]
      { Cpu.reset with
        pc := 0x1000#16, a := 0x33#8, h := 0x20#8, l := 0x00#8, b := 0x00#8, c := 0x02#8,
        f := Flags.ofByte 0x01#8 })
      (fun t =>
        t.cpu.c == 0x01#8 && t.cpu.l == 0x01#8 && t.cpu.pc == 0x1002#16 &&
          hasFlags t false true false true true true) = true := by decide +kernel

/-- `CPD` (95_test_vectors.md V42.17, rule R255): BC = 0 wraps to 0xFFFF; 0 - 1: S = 1, H = 1. -/
theorem test_v42_17_cpd :
    steps (flat [(0x2000, 0x01), (0x1000, 0xED), (0x1001, 0xA9)]
      { Cpu.reset with
        pc := 0x1000#16, a := 0x00#8, h := 0x20#8, l := 0x00#8, b := 0x00#8, c := 0x00#8,
        f := Flags.ofByte 0x00#8 })
      (fun t =>
        t.cpu.b == 0xFF#8 && t.cpu.c == 0xFF#8 && t.cpu.h == 0x1F#8 && t.cpu.l == 0xFF#8 &&
          t.cpu.pc == 0x1002#16 && hasFlags t true false true true true false) = true := by decide +kernel

/-- `CPDR` (95_test_vectors.md V42.18, rule R256): match on the first byte ends the repeat. -/
theorem test_v42_18_cpdr :
    steps (flat [(0x2000, 0x7F), (0x1000, 0xED), (0x1001, 0xB9)]
      { Cpu.reset with
        pc := 0x1000#16, a := 0x7F#8, h := 0x20#8, l := 0x00#8, b := 0x01#8, c := 0x00#8,
        f := Flags.ofByte 0x01#8 })
      (fun t =>
        t.cpu.b == 0x00#8 && t.cpu.c == 0xFF#8 && t.cpu.h == 0x1F#8 && t.cpu.l == 0xFF#8 &&
          t.cpu.pc == 0x1002#16 && hasFlags t false true false true true true) = true := by decide +kernel

/-- `ADD A,B` (95_test_vectors.md V43.1, rule R262): signed overflow: P/V = 1, H = 1, C = 0. -/
theorem test_v43_1_add_a_b :
    steps (flat [(0x1000, 0x80)]
      { Cpu.reset with pc := 0x1000#16, a := 0x7F#8, b := 0x01#8, f := Flags.ofByte 0x00#8 })
      (fun t =>
        t.cpu.a == 0x80#8 && t.cpu.pc == 0x1001#16 && hasFlags t true false true true false false) = true := by
  decide +kernel

/-- `ADD A,(HL)` (95_test_vectors.md V43.3, rule R264): -128 + -128: overflow and carry, result 0. -/
theorem test_v43_3_add_a_hl :
    steps (flat [(0x2000, 0x80), (0x1000, 0x86)]
      { Cpu.reset with pc := 0x1000#16, a := 0x80#8, h := 0x20#8, l := 0x00#8, f := Flags.ofByte 0x00#8 })
      (fun t =>
        t.cpu.a == 0x00#8 && t.cpu.pc == 0x1001#16 && hasFlags t false true false true false true) = true := by
  decide +kernel

/-- `ADC A,0FFH` (95_test_vectors.md V43.6, rule R268): 0xFF + 0xFF + 1. -/
theorem test_v43_6_adc_a_0ffh :
    steps (flat [(0x1000, 0xCE), (0x1001, 0xFF)]
      { Cpu.reset with pc := 0x1000#16, a := 0xFF#8, f := Flags.ofByte 0x01#8 })
      (fun t =>
        t.cpu.a == 0xFF#8 && t.cpu.pc == 0x1002#16 && hasFlags t true false true false false true) = true := by
  decide +kernel

/-- `SUB B` (95_test_vectors.md V43.8, rule R272): signed overflow on subtract. -/
theorem test_v43_8_sub_b :
    steps (flat [(0x1000, 0x90)]
      { Cpu.reset with pc := 0x1000#16, a := 0x80#8, b := 0x01#8, f := Flags.ofByte 0x00#8 })
      (fun t =>
        t.cpu.a == 0x7F#8 && t.cpu.pc == 0x1001#16 && hasFlags t false false true true true false) = true := by
  decide +kernel

/-- `SBC A,7FH` (95_test_vectors.md V43.12, rule R278): 0x80 - 0x7F - 1 = 0, overflow. -/
theorem test_v43_12_sbc_a_7fh :
    steps (flat [(0x1000, 0xDE), (0x1001, 0x7F)]
      { Cpu.reset with pc := 0x1000#16, a := 0x80#8, f := Flags.ofByte 0x01#8 })
      (fun t =>
        t.cpu.a == 0x00#8 && t.cpu.pc == 0x1002#16 && hasFlags t false true true true true false) = true := by
  decide +kernel

/-- `AND 0FH` (95_test_vectors.md V43.13, rule R283): H = 1 always; zero has even parity. -/
theorem test_v43_13_and_0fh :
    steps (flat [(0x1000, 0xE6), (0x1001, 0x0F)]
      { Cpu.reset with pc := 0x1000#16, a := 0xF0#8, f := Flags.ofByte 0x03#8 })
      (fun t =>
        t.cpu.a == 0x00#8 && t.cpu.pc == 0x1002#16 && hasFlags t false true true true false false) = true := by
  decide +kernel

/-- `OR (HL)` (95_test_vectors.md V43.15, rule R294): odd parity: P/V = 0; H, N, C cleared. -/
theorem test_v43_15_or_hl :
    steps (flat [(0x2000, 0x02), (0x1000, 0xB6)]
      { Cpu.reset with pc := 0x1000#16, a := 0x01#8, h := 0x20#8, l := 0x00#8, f := Flags.ofByte 0x13#8 })
      (fun t =>
        t.cpu.a == 0x03#8 && t.cpu.pc == 0x1001#16 && hasFlags t false false false true false false) = true := by
  decide +kernel

/-- `XOR 0FFH` (95_test_vectors.md V43.17, rule R288). -/
theorem test_v43_17_xor_0ffh :
    steps (flat [(0x1000, 0xEE), (0x1001, 0xFF)]
      { Cpu.reset with pc := 0x1000#16, a := 0x0F#8, f := Flags.ofByte 0x00#8 })
      (fun t =>
        t.cpu.a == 0xF0#8 && t.cpu.pc == 0x1002#16 && hasFlags t true false false true false false) = true := by
  decide +kernel

/-- `CP 80H` (95_test_vectors.md V43.19, rule R298): 0x7F - 0x80: overflow, borrow, S = 1. -/
theorem test_v43_19_cp_80h :
    steps (flat [(0x1000, 0xFE), (0x1001, 0x80)]
      { Cpu.reset with pc := 0x1000#16, a := 0x7F#8, f := Flags.ofByte 0x00#8 })
      (fun t =>
        t.cpu.a == 0x7F#8 && t.cpu.pc == 0x1002#16 && hasFlags t true false false true true true) = true := by
  decide +kernel

/-- `INC B` (95_test_vectors.md V43.21, rule R302): overflow; C kept at 1. -/
theorem test_v43_21_inc_b :
    steps (flat [(0x1000, 0x04)]
      { Cpu.reset with pc := 0x1000#16, b := 0x7F#8, f := Flags.ofByte 0x01#8 })
      (fun t =>
        t.cpu.b == 0x80#8 && t.cpu.pc == 0x1001#16 && hasFlags t true false true true false true) = true := by
  decide +kernel

/-- `INC (HL)` (95_test_vectors.md V43.22, rule R303): half carry. -/
theorem test_v43_22_inc_hl :
    steps (flat [(0x2000, 0x0F), (0x1000, 0x34)]
      { Cpu.reset with pc := 0x1000#16, h := 0x20#8, l := 0x00#8, f := Flags.ofByte 0x00#8 })
      (fun t =>
        t.readByte 0x2000#16 == 0x10#8 && t.cpu.pc == 0x1001#16 && hasFlags t false false true false false false) = true := by
  decide +kernel

/-- `DEC B` (95_test_vectors.md V43.23, rule R306): 0x80 -> 0x7F: overflow. -/
theorem test_v43_23_dec_b :
    steps (flat [(0x1000, 0x05)]
      { Cpu.reset with pc := 0x1000#16, b := 0x80#8, f := Flags.ofByte 0x00#8 })
      (fun t =>
        t.cpu.b == 0x7F#8 && t.cpu.pc == 0x1001#16 && hasFlags t false false true true true false) = true := by
  decide +kernel

/-- `ADD A,(IX-2)` (95_test_vectors.md V43.27, rule R265). -/
theorem test_v43_27_add_a_ixminus2 :
    steps (flat [(0x2000, 0x02), (0x1000, 0xDD), (0x1001, 0x86), (0x1002, 0xFE)]
      { Cpu.reset with pc := 0x1000#16, a := 0x01#8, ix := 0x2002#16, f := Flags.ofByte 0x00#8 })
      (fun t =>
        t.cpu.a == 0x03#8 && t.cpu.pc == 0x1003#16 && hasFlags t false false false false false false) = true := by
  decide +kernel

/-- `INC (IX+0)` (95_test_vectors.md V43.29, rule R304). -/
theorem test_v43_29_inc_ixplus0 :
    steps (flat [(0x2000, 0xFF), (0x1000, 0xDD), (0x1001, 0x34), (0x1002, 0x00)]
      { Cpu.reset with pc := 0x1000#16, ix := 0x2000#16, f := Flags.ofByte 0x01#8 })
      (fun t =>
        t.readByte 0x2000#16 == 0x00#8 && t.cpu.pc == 0x1003#16 && hasFlags t false true true false false true) = true := by
  decide +kernel

/-- `DAA` (95_test_vectors.md V44.2, rule R310): both corrections: 0x9A -> 0x00, C = 1, Z = 1. -/
theorem test_v44_2_daa :
    steps (flat [(0x1000, 0x27)]
      { Cpu.reset with pc := 0x1000#16, a := 0x9A#8, f := Flags.ofByte 0x00#8 })
      (fun t =>
        t.cpu.a == 0x00#8 && t.cpu.pc == 0x1001#16 && hasFlags t false true true true false true) = true := by
  decide +kernel

/-- `DAA` (95_test_vectors.md V44.5, rule R310): after 0x42 - 0x15 (N = 1, H = 1): subtract 0x06. -/
theorem test_v44_5_daa :
    steps (flat [(0x1000, 0x27)]
      { Cpu.reset with pc := 0x1000#16, a := 0x2D#8, f := Flags.ofByte 0x12#8 })
      (fun t =>
        t.cpu.a == 0x27#8 && t.cpu.pc == 0x1001#16 && hasFlags t false false false true true false) = true := by
  decide +kernel

/-- `CPL` (95_test_vectors.md V44.9, rule R311): H = N = 1; S, Z, P/V, C kept. -/
theorem test_v44_9_cpl :
    steps (flat [(0x1000, 0x2F)]
      { Cpu.reset with pc := 0x1000#16, a := 0x5A#8, f := Flags.ofByte 0x00#8 })
      (fun t =>
        t.cpu.a == 0xA5#8 && t.cpu.pc == 0x1001#16 && hasFlags t false false true false true false) = true := by
  decide +kernel

/-- `NEG` (95_test_vectors.md V44.11, rule R312): 0 - 0x80 = 0x80: P/V = 1, C = 1. -/
theorem test_v44_11_neg :
    steps (flat [(0x1000, 0xED), (0x1001, 0x44)]
      { Cpu.reset with pc := 0x1000#16, a := 0x80#8, f := Flags.ofByte 0x00#8 })
      (fun t =>
        t.cpu.a == 0x80#8 && t.cpu.pc == 0x1002#16 && hasFlags t true false false true true true) = true := by
  decide +kernel

/-- `CCF` (95_test_vectors.md V44.14, rule R313): H takes the old C; C inverted. -/
theorem test_v44_14_ccf :
    steps (flat [(0x1000, 0x3F)]
      { Cpu.reset with pc := 0x1000#16, f := Flags.ofByte 0x01#8 })
      (fun t =>
        t.cpu.pc == 0x1001#16 && hasFlags t false false true false false false) = true := by decide +kernel

/-- `SCF` (95_test_vectors.md V44.16, rule R314): H, N cleared; C set. -/
theorem test_v44_16_scf :
    steps (flat [(0x1000, 0x37)]
      { Cpu.reset with pc := 0x1000#16, f := Flags.ofByte 0xD6#8 })
      (fun t =>
        t.cpu.pc == 0x1001#16 && hasFlags t true true false true false true) = true := by decide +kernel

/-- `HALT` (95_test_vectors.md V44.18, rule R316): pc is left after the HALT. -/
theorem test_v44_18_halt :
    steps (flat [(0x1000, 0x76)]
      { Cpu.reset with pc := 0x1000#16 })
      (fun t =>
        t.cpu.halted == true && t.cpu.pc == 0x1001#16) = true := by decide +kernel

/-- `DI` (95_test_vectors.md V44.20, rule R317). -/
theorem test_v44_20_di :
    steps (flat [(0x1000, 0xF3)]
      { Cpu.reset with pc := 0x1000#16, iff1 := true, iff2 := true })
      (fun t =>
        t.cpu.iff1 == false && t.cpu.iff2 == false && t.cpu.pc == 0x1001#16) = true := by decide +kernel

/-- `EI` (95_test_vectors.md V44.21, rule R318): sets the one-instruction delay latch. -/
theorem test_v44_21_ei :
    steps (flat [(0x1000, 0xFB)]
      { Cpu.reset with pc := 0x1000#16, iff1 := false, iff2 := false })
      (fun t =>
        t.cpu.iff1 == true && t.cpu.iff2 == true && t.cpu.eiDelay == true && t.cpu.pc == 0x1001#16) = true := by
  decide +kernel

/-- `IM 2` (95_test_vectors.md V44.25, rule R321). -/
theorem test_v44_25_im_2 :
    steps (flat [(0x1000, 0xED), (0x1001, 0x5E)]
      { Cpu.reset with pc := 0x1000#16, im := .im0 })
      (fun t =>
        t.cpu.im == .im2 && t.cpu.pc == 0x1002#16) = true := by decide +kernel

/-- `ADD HL,BC` (95_test_vectors.md V45.1, rule R324): carry out of bit 11: H = 1; S, Z, P/V kept. -/
theorem test_v45_1_add_hl_bc :
    steps (flat [(0x1000, 0x09)]
      { Cpu.reset with
        pc := 0x1000#16, h := 0x0F#8, l := 0xFF#8, b := 0x00#8, c := 0x01#8, f := Flags.ofByte 0xC4#8 })
      (fun t =>
        t.cpu.h == 0x10#8 && t.cpu.l == 0x00#8 && t.cpu.pc == 0x1001#16 &&
          hasFlags t true true true true false false) = true := by decide +kernel

/-- `ADC HL,HL` (95_test_vectors.md V45.6, rule R325): Z from all 16 bits; overflow and carry. -/
theorem test_v45_6_adc_hl_hl :
    steps (flat [(0x1000, 0xED), (0x1001, 0x6A)]
      { Cpu.reset with pc := 0x1000#16, h := 0x80#8, l := 0x00#8, f := Flags.ofByte 0x00#8 })
      (fun t =>
        t.cpu.h == 0x00#8 && t.cpu.pc == 0x1002#16 && hasFlags t false true false true false true) = true := by
  decide +kernel

/-- `SBC HL,DE` (95_test_vectors.md V45.8, rule R326): equal: Z = 1, N = 1. -/
theorem test_v45_8_sbc_hl_de :
    steps (flat [(0x1000, 0xED), (0x1001, 0x52)]
      { Cpu.reset with
        pc := 0x1000#16, h := 0x12#8, l := 0x34#8, d := 0x12#8, e := 0x34#8, f := Flags.ofByte 0x00#8 })
      (fun t =>
        t.cpu.h == 0x00#8 && t.cpu.l == 0x00#8 && t.cpu.pc == 0x1002#16 &&
          hasFlags t false true false false true false) = true := by decide +kernel

/-- `INC BC` (95_test_vectors.md V45.12, rule R329): wraps; no flag written. -/
theorem test_v45_12_inc_bc :
    steps (flat [(0x1000, 0x03)]
      { Cpu.reset with pc := 0x1000#16, b := 0xFF#8, c := 0xFF#8, f := Flags.ofByte 0x00#8 })
      (fun t =>
        t.cpu.b == 0x00#8 && t.cpu.c == 0x00#8 && t.cpu.pc == 0x1001#16) = true := by decide +kernel

/-- `ADD IX,IX` (95_test_vectors.md V45.17, rule R327): pp = 10 means IX itself, not HL. -/
theorem test_v45_17_add_ix_ix :
    steps (flat [(0x1000, 0xDD), (0x1001, 0x29)]
      { Cpu.reset with pc := 0x1000#16, ix := 0x4000#16, f := Flags.ofByte 0x00#8 })
      (fun t =>
        t.cpu.ix == 0x8000#16 && t.cpu.pc == 0x1002#16 && hasFlags t false false false false false false) = true := by
  decide +kernel

/-- `ADD IY,SP` (95_test_vectors.md V45.19, rule R328). -/
theorem test_v45_19_add_iy_sp :
    steps (flat [(0x1000, 0xFD), (0x1001, 0x39)]
      { Cpu.reset with pc := 0x1000#16, iy := 0x0800#16, sp := 0x0800#16, f := Flags.ofByte 0x01#8 })
      (fun t =>
        t.cpu.iy == 0x1000#16 && t.cpu.pc == 0x1002#16 && hasFlags t false false true false false false) = true := by
  decide +kernel

/-- `RLCA` (95_test_vectors.md V46.1, rule R336): S, Z, P/V kept; C = old bit 7. -/
theorem test_v46_1_rlca :
    steps (flat [(0x1000, 0x07)]
      { Cpu.reset with pc := 0x1000#16, a := 0x81#8, f := Flags.ofByte 0xC4#8 })
      (fun t =>
        t.cpu.a == 0x03#8 && t.cpu.pc == 0x1001#16 && hasFlags t true true false true false true) = true := by
  decide +kernel

/-- `RRA` (95_test_vectors.md V46.4, rule R339): 9-bit rotate through C. -/
theorem test_v46_4_rra :
    steps (flat [(0x1000, 0x1F)]
      { Cpu.reset with pc := 0x1000#16, a := 0x01#8, f := Flags.ofByte 0x01#8 })
      (fun t =>
        t.cpu.a == 0x80#8 && t.cpu.pc == 0x1001#16 && hasFlags t false false false false false true) = true := by
  decide +kernel

/-- `RRC (HL)` (95_test_vectors.md V46.7, rule R345). -/
theorem test_v46_7_rrc_hl :
    steps (flat [(0x2000, 0x01), (0x1000, 0xCB), (0x1001, 0x0E)]
      { Cpu.reset with pc := 0x1000#16, h := 0x20#8, l := 0x00#8, f := Flags.ofByte 0x00#8 })
      (fun t =>
        t.readByte 0x2000#16 == 0x80#8 && t.cpu.pc == 0x1002#16 && hasFlags t true false false false false true) = true := by
  decide +kernel

/-- `RR C` (95_test_vectors.md V46.9, rule R352): carry enters bit 7. -/
theorem test_v46_9_rr_c :
    steps (flat [(0x1000, 0xCB), (0x1001, 0x19)]
      { Cpu.reset with pc := 0x1000#16, c := 0x00#8, f := Flags.ofByte 0x01#8 })
      (fun t =>
        t.cpu.c == 0x80#8 && t.cpu.pc == 0x1002#16 && hasFlags t true false false false false false) = true := by
  decide +kernel

/-- `SRA B` (95_test_vectors.md V46.11, rule R360): bit 7 copied. -/
theorem test_v46_11_sra_b :
    steps (flat [(0x1000, 0xCB), (0x1001, 0x28)]
      { Cpu.reset with pc := 0x1000#16, b := 0x81#8, f := Flags.ofByte 0x00#8 })
      (fun t =>
        t.cpu.b == 0xC0#8 && t.cpu.pc == 0x1002#16 && hasFlags t true false false true false true) = true := by
  decide +kernel

/-- `RLD` (95_test_vectors.md V46.14, rule R368): digits rotate left through A[3:0]; C kept. -/
theorem test_v46_14_rld :
    steps (flat [(0x2000, 0x31), (0x1000, 0xED), (0x1001, 0x6F)]
      { Cpu.reset with pc := 0x1000#16, a := 0x7A#8, h := 0x20#8, l := 0x00#8, f := Flags.ofByte 0x01#8 })
      (fun t =>
        t.cpu.a == 0x73#8 && t.readByte 0x2000#16 == 0x1A#8 && t.cpu.pc == 0x1002#16 &&
          hasFlags t false false false false false true) = true := by decide +kernel

/-- `RRD` (95_test_vectors.md V46.15, rule R369). -/
theorem test_v46_15_rrd :
    steps (flat [(0x2000, 0x20), (0x1000, 0xED), (0x1001, 0x67)]
      { Cpu.reset with pc := 0x1000#16, a := 0x84#8, h := 0x20#8, l := 0x00#8, f := Flags.ofByte 0x00#8 })
      (fun t =>
        t.cpu.a == 0x80#8 && t.readByte 0x2000#16 == 0x42#8 && t.cpu.pc == 0x1002#16 &&
          hasFlags t true false false false false false) = true := by decide +kernel

/-- `RLC (IX+5)` (95_test_vectors.md V46.17, rule R342): d is byte 2, the operation byte 3. -/
theorem test_v46_17_rlc_ixplus5 :
    steps (flat [(0x2005, 0x88), (0x1000, 0xDD), (0x1001, 0xCB), (0x1002, 0x05), (0x1003, 0x06)]
      { Cpu.reset with pc := 0x1000#16, ix := 0x2000#16, f := Flags.ofByte 0x00#8 })
      (fun t =>
        t.readByte 0x2005#16 == 0x11#8 && t.cpu.pc == 0x1004#16 && hasFlags t false false false true false true) = true := by
  decide +kernel

/-- `RR (IY-1)` (95_test_vectors.md V46.18, rule R355). -/
theorem test_v46_18_rr_iyminus1 :
    steps (flat [(0x2000, 0x02), (0x1000, 0xFD), (0x1001, 0xCB), (0x1002, 0xFF), (0x1003, 0x1E)]
      { Cpu.reset with pc := 0x1000#16, iy := 0x2001#16, f := Flags.ofByte 0x01#8 })
      (fun t =>
        t.readByte 0x2000#16 == 0x81#8 && t.cpu.pc == 0x1004#16 && hasFlags t true false false true false false) = true := by
  decide +kernel

/-- `SRA (IX+1)` (95_test_vectors.md V46.21, rule R362). -/
theorem test_v46_21_sra_ixplus1 :
    steps (flat [(0x2001, 0xFE), (0x1000, 0xDD), (0x1001, 0xCB), (0x1002, 0x01), (0x1003, 0x2E)]
      { Cpu.reset with pc := 0x1000#16, ix := 0x2000#16, f := Flags.ofByte 0x00#8 })
      (fun t =>
        t.readByte 0x2001#16 == 0xFF#8 && t.cpu.pc == 0x1004#16 && hasFlags t true false false true false false) = true := by
  decide +kernel

/-- `RL (IX+1)` (95_test_vectors.md V46.22, rule R350). -/
theorem test_v46_22_rl_ixplus1 :
    steps (flat [(0x2001, 0x7F), (0x1000, 0xDD), (0x1001, 0xCB), (0x1002, 0x01), (0x1003, 0x16)]
      { Cpu.reset with pc := 0x1000#16, ix := 0x2000#16, f := Flags.ofByte 0x01#8 })
      (fun t =>
        t.readByte 0x2001#16 == 0xFF#8 && t.cpu.pc == 0x1004#16 && hasFlags t true false false true false false) = true := by
  decide +kernel

/-- `BIT 7,A` (95_test_vectors.md V47.1, rule R370): bit set: Z = 0; S = 1 (93_implementation_defined.md U4); C kept. -/
theorem test_v47_1_bit_7_a :
    steps (flat [(0x1000, 0xCB), (0x1001, 0x7F)]
      { Cpu.reset with pc := 0x1000#16, a := 0x80#8, f := Flags.ofByte 0x01#8 })
      (fun t =>
        t.cpu.pc == 0x1002#16 && hasFlags t true false true false false true) = true := by decide +kernel

/-- `BIT 5,(HL)` (95_test_vectors.md V47.5, rule R371). -/
theorem test_v47_5_bit_5_hl :
    steps (flat [(0x2000, 0xDF), (0x1000, 0xCB), (0x1001, 0x6E)]
      { Cpu.reset with pc := 0x1000#16, h := 0x20#8, l := 0x00#8, f := Flags.ofByte 0x01#8 })
      (fun t =>
        t.cpu.pc == 0x1002#16 && hasFlags t false true true true false true) = true := by decide +kernel

/-- `BIT 7,(IX+2)` (95_test_vectors.md V47.6, rule R372). -/
theorem test_v47_6_bit_7_ixplus2 :
    steps (flat [(0x2002, 0x80), (0x1000, 0xDD), (0x1001, 0xCB), (0x1002, 0x02), (0x1003, 0x7E)]
      { Cpu.reset with pc := 0x1000#16, ix := 0x2000#16, f := Flags.ofByte 0x00#8 })
      (fun t =>
        t.cpu.pc == 0x1004#16 && hasFlags t true false true false false false) = true := by decide +kernel

/-- `SET 0,B` (95_test_vectors.md V47.8, rule R374): no flag written. -/
theorem test_v47_8_set_0_b :
    steps (flat [(0x1000, 0xCB), (0x1001, 0xC0)]
      { Cpu.reset with pc := 0x1000#16, b := 0x00#8, f := Flags.ofByte 0xFF#8 })
      (fun t =>
        t.cpu.b == 0x01#8 && t.cpu.pc == 0x1002#16) = true := by decide +kernel

/-- `SET 7,(HL)` (95_test_vectors.md V47.10, rule R375). -/
theorem test_v47_10_set_7_hl :
    steps (flat [(0x2000, 0x01), (0x1000, 0xCB), (0x1001, 0xFE)]
      { Cpu.reset with pc := 0x1000#16, h := 0x20#8, l := 0x00#8 })
      (fun t =>
        t.readByte 0x2000#16 == 0x81#8 && t.cpu.pc == 0x1002#16) = true := by decide +kernel

/-- `RES 3,D` (95_test_vectors.md V47.13, rule R378). -/
theorem test_v47_13_res_3_d :
    steps (flat [(0x1000, 0xCB), (0x1001, 0x9A)]
      { Cpu.reset with pc := 0x1000#16, d := 0x08#8 })
      (fun t =>
        t.cpu.d == 0x00#8 && t.cpu.pc == 0x1002#16) = true := by decide +kernel

/-- `RES 0,(IX+0)` (95_test_vectors.md V47.15, rule R380). -/
theorem test_v47_15_res_0_ixplus0 :
    steps (flat [(0x2000, 0x55), (0x1000, 0xDD), (0x1001, 0xCB), (0x1002, 0x00), (0x1003, 0x86)]
      { Cpu.reset with pc := 0x1000#16, ix := 0x2000#16 })
      (fun t =>
        t.readByte 0x2000#16 == 0x54#8 && t.cpu.pc == 0x1004#16) = true := by decide +kernel

/-- `JP NZ,2000H` (95_test_vectors.md V48.3, rule R383): not taken: pc + 3; same 10 T. -/
theorem test_v48_3_jp_nz_2000h :
    steps (flat [(0x1000, 0xC2), (0x1001, 0x00), (0x1002, 0x20)]
      { Cpu.reset with pc := 0x1000#16, f := Flags.ofByte 0x40#8 })
      (fun t =>
        t.cpu.pc == 0x1003#16) = true := by decide +kernel

/-- `JP PO,2000H` (95_test_vectors.md V48.6, rule R383): P/V = 0. -/
theorem test_v48_6_jp_po_2000h :
    steps (flat [(0x1000, 0xE2), (0x1001, 0x00), (0x1002, 0x20)]
      { Cpu.reset with pc := 0x1000#16, f := Flags.ofByte 0x00#8 })
      (fun t =>
        t.cpu.pc == 0x2000#16) = true := by decide +kernel

/-- `JR +0` (95_test_vectors.md V48.13, rule R384): pc + 2 wraps to 0x0000. -/
theorem test_v48_13_jr_plus0 :
    steps (flat [(0xFFFE, 0x18), (0xFFFF, 0x00)]
      { Cpu.reset with pc := 0xFFFE#16 })
      (fun t =>
        t.cpu.pc == 0x0000#16) = true := by decide +kernel

/-- `JR NC,+16` (95_test_vectors.md V48.15, rule R386): not taken: 7 T. -/
theorem test_v48_15_jr_nc_plus16 :
    steps (flat [(0x1000, 0x30), (0x1001, 0x10)]
      { Cpu.reset with pc := 0x1000#16, f := Flags.ofByte 0x01#8 })
      (fun t =>
        t.cpu.pc == 0x1002#16) = true := by decide +kernel

/-- `DJNZ -2` (95_test_vectors.md V48.18, rule R392): B reaches 0: falls through, 8 T; no flag written. -/
theorem test_v48_18_djnz_minus2 :
    steps (flat [(0x1000, 0x10), (0x1001, 0xFE)]
      { Cpu.reset with pc := 0x1000#16, b := 0x01#8, f := Flags.ofByte 0xFF#8 })
      (fun t =>
        t.cpu.b == 0x00#8 && t.cpu.pc == 0x1002#16) = true := by decide +kernel

/-- `DJNZ -2` (95_test_vectors.md V48.19, rule R392): B = 0 wraps to 0xFF: taken (256 iterations), 13 T. -/
theorem test_v48_19_djnz_minus2 :
    steps (flat [(0x1000, 0x10), (0x1001, 0xFE)]
      { Cpu.reset with pc := 0x1000#16, b := 0x00#8 })
      (fun t =>
        t.cpu.b == 0xFF#8 && t.cpu.pc == 0x1000#16) = true := by decide +kernel

/-- `JP (IX)` (95_test_vectors.md V48.22, rule R390). -/
theorem test_v48_22_jp_ix :
    steps (flat [(0x1000, 0xDD), (0x1001, 0xE9)]
      { Cpu.reset with pc := 0x1000#16, ix := 0xC000#16 })
      (fun t =>
        t.cpu.pc == 0xC000#16) = true := by decide +kernel

/-- `CALL 2000H` (95_test_vectors.md V48.24, rule R393): return address 0x1003 pushed, high byte first at SP-1. -/
theorem test_v48_24_call_2000h :
    steps (flat [(0x1000, 0xCD), (0x1001, 0x00), (0x1002, 0x20)]
      { Cpu.reset with pc := 0x1000#16, sp := 0x8000#16 })
      (fun t =>
        t.cpu.sp == 0x7FFE#16 && t.readByte 0x7FFF#16 == 0x10#8 && t.readByte 0x7FFE#16 == 0x03#8 &&
          t.cpu.pc == 0x2000#16) = true := by decide +kernel

/-- `RET` (95_test_vectors.md V48.29, rule R395): SP wraps through 0. -/
theorem test_v48_29_ret :
    steps (flat [(0xFFFF, 0x34), (0x0000, 0x12), (0x1000, 0xC9)]
      { Cpu.reset with pc := 0x1000#16, sp := 0xFFFF#16 })
      (fun t =>
        t.cpu.sp == 0x0001#16 && t.cpu.pc == 0x1234#16) = true := by decide +kernel

/-- `RET Z` (95_test_vectors.md V48.30, rule R396): not taken: 5 T. -/
theorem test_v48_30_ret_z :
    steps (flat [(0x7FFE, 0x03), (0x7FFF, 0x10), (0x1000, 0xC8)]
      { Cpu.reset with pc := 0x1000#16, sp := 0x7FFE#16, f := Flags.ofByte 0x00#8 })
      (fun t =>
        t.cpu.sp == 0x7FFE#16 && t.cpu.pc == 0x1001#16) = true := by decide +kernel

/-- `RST 38H` (95_test_vectors.md V48.32, rule R399): pushes pc + 1. -/
theorem test_v48_32_rst_38h :
    steps (flat [(0x1000, 0xFF)]
      { Cpu.reset with pc := 0x1000#16, sp := 0x8000#16 })
      (fun t =>
        t.cpu.sp == 0x7FFE#16 && t.readByte 0x7FFF#16 == 0x10#8 && t.readByte 0x7FFE#16 == 0x01#8 &&
          t.cpu.pc == 0x0038#16) = true := by decide +kernel

/-- `RETI` (95_test_vectors.md V48.35, rule R397): IFF1 not restored. -/
theorem test_v48_35_reti :
    steps (flat [(0x7FFE, 0x00), (0x7FFF, 0x30), (0x1000, 0xED), (0x1001, 0x4D)]
      { Cpu.reset with pc := 0x1000#16, sp := 0x7FFE#16, iff1 := false, iff2 := true })
      (fun t =>
        t.cpu.sp == 0x8000#16 && t.cpu.iff1 == false && t.cpu.iff2 == true && t.cpu.pc == 0x3000#16) = true := by
  decide +kernel

/-- `RETN` (95_test_vectors.md V48.36, rule R398): IFF1 <- IFF2. -/
theorem test_v48_36_retn :
    steps (flat [(0x7FFE, 0x00), (0x7FFF, 0x30), (0x1000, 0xED), (0x1001, 0x45)]
      { Cpu.reset with pc := 0x1000#16, sp := 0x7FFE#16, iff1 := false, iff2 := true })
      (fun t =>
        t.cpu.sp == 0x8000#16 && t.cpu.iff1 == true && t.cpu.pc == 0x3000#16) = true := by decide +kernel

/-- `(undefined, class U-CB)` (95_test_vectors.md V30.1, rule R118): silicon would shift B; here nothing happens. -/
theorem test_v30_1_undefined_class_uminuscb :
    steps (flat [(0x1000, 0xCB), (0x1001, 0x30)]
      { Cpu.reset with pc := 0x1000#16, b := 0x81#8, f := Flags.ofByte 0x00#8, r := 0x00#8 })
      (fun t =>
        t.cpu.b == 0x81#8 && t.cpu.r == 0x02#8 && t.cpu.pc == 0x1002#16) = true := by decide +kernel

/-- `(undefined, class U-ED)` (95_test_vectors.md V30.4, rule R118): silicon would read the port and set flags; here no I/O access. -/
theorem test_v30_4_undefined_class_uminused :
    steps (flat [(0x1000, 0xED), (0x1001, 0x70)]
      { Cpu.reset with pc := 0x1000#16, b := 0x00#8, c := 0x20#8, f := Flags.ofByte 0x00#8, r := 0x00#8 })
      (fun t =>
        t.cpu.r == 0x02#8 && t.cpu.pc == 0x1002#16) = true := by decide +kernel

/-- `(undefined, class U-XY)` (95_test_vectors.md V30.7, rule R118): only the prefix is consumed. -/
theorem test_v30_7_undefined_class_uminusxy :
    steps (flat [(0x1000, 0xDD), (0x1001, 0x00)]
      { Cpu.reset with pc := 0x1000#16, r := 0x00#8 })
      (fun t =>
        t.cpu.r == 0x01#8 && t.cpu.pc == 0x1001#16) = true := by decide +kernel

/-- `(undefined, class U-XYCB)` (95_test_vectors.md V30.13, rule R118). -/
theorem test_v30_13_undefined_class_uminusxycb :
    steps (flat [(0x2000, 0x80), (0x1000, 0xFD), (0x1001, 0xCB), (0x1002, 0x00), (0x1003, 0x36)]
      { Cpu.reset with pc := 0x1000#16, iy := 0x2000#16, r := 0x00#8 })
      (fun t =>
        t.cpu.r == 0x02#8 && t.cpu.pc == 0x1004#16) = true := by decide +kernel

/-! ### Input and output, in the test instance (00_scope.md rule R5) -/

/-- `IN A,(01H)`: the UART status, with a byte waiting (60_exceptions.md rule R521; 49_io.md rule R400). -/
theorem test_in_a_n_uart_status :
    steps { flat [(0x1000, 0xDB), (0x1001, 0x01)] { Cpu.reset with pc := 0x1000#16 } with
        uart := { rx := [0x41#8], tx := [] } }
      (fun t => t.cpu.a == 0x03#8 && t.uart.rx == [0x41#8] && t.cpu.pc == 0x1002#16) = true := by decide +kernel

/-- `IN B,(C)`: the oldest byte of the UART queue, and the flags of the byte (95_test_vectors.md V49.3, rule R401). -/
theorem test_in_r_c :
    steps { flat [(0x1000, 0xED), (0x1001, 0x40)]
          { Cpu.reset with pc := 0x1000#16, b := 0x10#8, c := 0x00#8, f := Flags.ofByte 0x01#8 } with
        uart := { rx := [0x80#8, 0x42#8], tx := [] } }
      (fun t => t.cpu.b == 0x80#8 && t.uart.rx == [0x42#8] && hasFlags t true false false false false true) = true := by
  decide +kernel

/-- `OUT (00H),A`: a byte for the console (60_exceptions.md rule R523; 49_io.md rule R406). -/
theorem test_out_n_a :
    steps (flat [(0x1000, 0xD3), (0x1001, 0x00)] { Cpu.reset with pc := 0x1000#16, a := 0x41#8 })
      (fun t => t.uart.tx == [0x41#8] && t.cpu.pc == 0x1002#16) = true := by decide +kernel

/-- `OUT (C),B` to the bank port of window 0, whatever address bits 15 to 8 hold (20_memory.md rule R67; 49_io.md rule
R407). -/
theorem test_out_c_r_bank :
    steps (flat [(0x1000, 0xED), (0x1001, 0x41)] { Cpu.reset with pc := 0x1000#16, b := 0x25#8, c := 0x30#8 })
      (fun t => t.mem.map == [5, 31] && t.cpu.pc == 0x1002#16) = true := by decide +kernel

/-- `INI`: B = 1 is the last byte, and the port address uses B before the decrement (95_test_vectors.md V49.8). -/
theorem test_ini :
    steps { flat [(0x1000, 0xED), (0x1001, 0xA2)]
          { Cpu.reset with pc := 0x1000#16, b := 0x01#8, c := 0x00#8, h := 0x20#8 } with
        uart := { rx := [0x77#8], tx := [] } }
      (fun t => t.cpu.b == 0x00#8 && t.cpu.l == 0x01#8 && t.readByte 0x2000#16 == 0x77#8 && t.cpu.f.z &&
        t.cpu.pc == 0x1002#16) = true := by decide +kernel

/-- `INDR` with B left: pc stays on the instruction (95_test_vectors.md V49.12). -/
theorem test_indr :
    steps { flat [(0x1000, 0xED), (0x1001, 0xBA)]
          { Cpu.reset with pc := 0x1000#16, b := 0x02#8, c := 0x00#8, h := 0x20#8 } with
        uart := { rx := [0x11#8], tx := [] } }
      (fun t => t.cpu.b == 0x01#8 && t.cpu.h == 0x1F#8 && t.cpu.l == 0xFF#8 && t.readByte 0x2000#16 == 0x11#8 &&
        !t.cpu.f.z && t.cpu.pc == 0x1000#16) = true := by decide +kernel

/-- `OTIR` with B left (95_test_vectors.md V49.15, first step). -/
theorem test_otir :
    steps (flat [(0x1000, 0xED), (0x1001, 0xB3), (0x2000, 0x48)]
        { Cpu.reset with pc := 0x1000#16, b := 0x02#8, c := 0x00#8, h := 0x20#8 })
      (fun t => t.uart.tx == [0x48#8] && t.cpu.b == 0x01#8 && t.cpu.l == 0x01#8 && !t.cpu.f.z &&
        t.cpu.pc == 0x1000#16) = true := by decide +kernel

/-- `OUTD`: HL wraps (95_test_vectors.md V49.16). -/
theorem test_outd :
    steps (flat [(0x1000, 0xED), (0x1001, 0xAB), (0x0000, 0x99)] { Cpu.reset with pc := 0x1000#16 })
      (fun t => t.uart.tx == [0x99#8] && t.cpu.b == 0xFF#8 && t.cpu.h == 0xFF#8 && t.cpu.l == 0xFF#8 &&
        !t.cpu.f.z) = true := by decide +kernel

/-- A store to a ROM page is dropped (20_memory.md rule R66). -/
theorem test_rom_store_dropped :
    (State.reset.writeByte 0x7FFF#16 0x12#8 == State.reset) = true := by decide +kernel

/-- Slice counts with one, two and three disks loaded: 8, 4, 2 (95_test_vectors.md E5). -/
theorem test_slice_policy :
    (slicePolicy 1, slicePolicy 2, slicePolicy 3) = (8, 4, 2) := by decide

/-- `setSetting("2.3")` leaves the record A5 00 02 03 A4 and reads back (95_test_vectors.md E4, DV4). -/
theorem test_setting_2_3 :
    let p := State.reset.hostSetSetting ['2', '.', '3']
    p.1 = true ∧
      p.2.nvram.record =
        { signature := 0xA5#8, selector := 0x00#8, unit := 0x02#8, slice := 0x03#8, checksum := 0xA4#8 } ∧
      p.2.hostGetSetting = ['2', '.', '3'] := by decide +kernel

/-! ### Checks that refuse: one ill-formed configuration each (00_scope.md rules R5, R6) -/

/-- The test instance is well formed. -/
theorem test_config_well_formed : Config.testInstance.wellFormed = true := by decide +kernel

theorem test_config_pages_refused :
    ({ Config.testInstance with pageBits := 7 }).wellFormed = false ∧
      ({ Config.testInstance with pageBits := 17 }).wellFormed = false ∧
      ({ Config.testInstance with nPhysPages := 257 }).wellFormed = false ∧
      ({ Config.testInstance with nRomPages := 0 }).wellFormed = false ∧
      ({ Config.testInstance with nRomPages := 32 }).wellFormed = false := by decide +kernel

theorem test_config_map_refused :
    ({ Config.testInstance with resetMap := [0] }).wellFormed = false ∧
      ({ Config.testInstance with resetMap := [0, 32] }).wellFormed = false ∧
      ({ Config.testInstance with resetMap := [16, 31] }).wellFormed = false ∧
      ({ Config.testInstance with bankPort := [none] }).wellFormed = false ∧
      ({ Config.testInstance with bankDecode := .modulo 0 }).wellFormed = false ∧
      ({ Config.testInstance with bankDecode := .modulo 33 }).wellFormed = false ∧
      ({ Config.testInstance with bankDecode := .table [1] }).wellFormed = false ∧
      ({ Config.testInstance with bankDecode := .table (List.replicate 256 32) }).wellFormed = false := by
  decide +kernel

theorem test_config_ports_refused :
    ({ Config.testInstance with diskBase := 0x14#8 }).wellFormed = false ∧
      ({ Config.testInstance with uartStatus := 0x00#8 }).wellFormed = false ∧
      ({ Config.testInstance with nvData := 0x17#8 }).wellFormed = false ∧
      ({ Config.testInstance with bankPort := [some 0x30#8, some 0x30#8] }).wellFormed = false := by decide +kernel

theorem test_config_devices_refused :
    ({ Config.testInstance with sectorSize := 0 }).wellFormed = false ∧
      ({ Config.testInstance with nvSig := 0x00#8 }).wellFormed = false ∧
      ({ Config.testInstance with batchBudget := 0 }).wellFormed = false ∧
      ({ Config.testInstance with nvMenuString := [] }).wellFormed = false ∧
      ({ Config.testInstance with nvMenuString := ['m'] }).wellFormed = false ∧
      ({ Config.testInstance with nvMenuString := ['1', '2'] }).wellFormed = false ∧
      ({ Config.testInstance with nvMenuString := ['1', '.', '2'] }).wellFormed = false := by decide +kernel

/-- A step with an ill-formed configuration is refused (00_scope.md rule R6). -/
theorem test_ill_formed_refused :
    step { State.reset with cfg := { Config.testInstance with sectorSize := 0 } } = .refused .illFormedConfig :=
  if_pos (by decide +kernel)

/-! ### Witnesses: the hypotheses of each statement are met together, each clause at a boundary -/

/-- `NOP` at the pc, nothing in the way. -/
def nopNext : State := flat [(0x1000, 0x00)] { Cpu.reset with pc := 0x1000#16 }

/-- StepRunsTheDecodedInstruction. -/
theorem witness_step_runs : RunsNext nopNext ∧ decodeBytes (nopNext.bytesAtPc 4) = .instr .nop := by
  unfold RunsNext
  decide +kernel

/-- The same with an instruction that wraps around the top of memory. -/
theorem witness_step_runs_wrapping :
    let s := flat [(0xFFFE, 0xDD), (0xFFFF, 0x36), (0x0000, 0x05), (0x0001, 0x77)] { Cpu.reset with pc := 0xFFFE#16 }
    RunsNext s ∧ decodeBytes (s.bytesAtPc 4) = .instr (.ldIxdN 0x05#8 0x77#8) := by
  unfold RunsNext
  decide +kernel

/-- EncodeOfDecode. -/
theorem witness_encode_of_decode :
    decode 0x00#8 0xFF#8 0xFF#8 0xFF#8 = .instr .nop ∧
      decode 0xFD#8 0xCB#8 0x80#8 0xFE#8 = .instr (.setBIyd 7#3 0x80#8) := by decide +kernel

/-- A state with `bytes` at the pc and an `UNDEF_POLICY`. -/
def undefinedNext (p : UndefPolicy) (b0 b1 b2 b3 : Nat) : State :=
  let s := flat [(0x1000, b0), (0x1001, b1), (0x1002, b2), (0x1003, b3)] { Cpu.reset with pc := 0x1000#16 }
  { s with cfg := { s.cfg with undefPolicy := p } }

/-- UndefinedEncodings, under the policy `nop`: each of the four classes. -/
theorem witness_undefined_nop :
    (RunsNext (undefinedNext .nop 0xCB 0x30 0 0) ∧
        decodeBytes ((undefinedNext .nop 0xCB 0x30 0 0).bytesAtPc 4) = .undef .cb) ∧
      (RunsNext (undefinedNext .nop 0xED 0xFF 0 0) ∧
        decodeBytes ((undefinedNext .nop 0xED 0xFF 0 0).bytesAtPc 4) = .undef .ed) ∧
      (RunsNext (undefinedNext .nop 0xDD 0xFD 0 0) ∧
        decodeBytes ((undefinedNext .nop 0xDD 0xFD 0 0).bytesAtPc 4) = .undef .xy) ∧
      (RunsNext (undefinedNext .nop 0xFD 0xCB 0x05 0x47) ∧
        decodeBytes ((undefinedNext .nop 0xFD 0xCB 0x05 0x47).bytesAtPc 4) = .undef .xyCb) := by
  unfold RunsNext
  decide +kernel

/-- UndefinedEncodings, under the policy `fault`. -/
theorem witness_undefined_fault :
    RunsNext (undefinedNext .fault 0xED 0x00 0 0) ∧
      decodeBytes ((undefinedNext .fault 0xED 0x00 0 0).bytesAtPc 4) = .undef .ed ∧
      (undefinedNext .fault 0xED 0x00 0 0).cfg.undefPolicy = .fault := by
  unfold RunsNext
  decide +kernel

/-- MemoryAccess: the last byte of a ROM page, and the first and last of a RAM page. -/
theorem witness_memory_access :
    State.reset.mem.map[(0x7FFF#16).toNat / 2 ^ State.reset.cfg.pageBits]? = some 0 ∧
      State.reset.mem.map[(0x8000#16).toNat / 2 ^ State.reset.cfg.pageBits]? = some 31 ∧
      State.reset.mem.map[(0xFFFF#16).toNat / 2 ^ State.reset.cfg.pageBits]? = some 31 ∧
      0 < State.reset.cfg.nRomPages ∧ State.reset.cfg.nRomPages ≤ 31 ∧
      State.reset.translate 0x8000#16 = 31 * 2 ^ State.reset.cfg.pageBits := by decide +kernel

/-- MemoryAccess at the first RAM page and the last ROM page. -/
theorem witness_memory_access_boundary :
    let s := { State.reset with mem := { State.reset.mem with map := [15, 16] } }
    s.mem.map[(0x0000#16).toNat / 2 ^ s.cfg.pageBits]? = some 15 ∧ 15 < s.cfg.nRomPages ∧
      s.mem.map[(0xFFFF#16).toNat / 2 ^ s.cfg.pageBits]? = some 16 ∧ s.cfg.nRomPages ≤ 16 := by decide +kernel

/-- An I/O address whose port is neither a bank port nor a device's. -/
def portUnmapped (c : Config) (addr : Word) : Prop :=
  some (loByte addr) ∉ c.bankPort ∧ loByte addr ≠ c.uartData ∧ loByte addr ≠ c.uartStatus ∧
    (∀ k, k < 8 → loByte addr ≠ c.diskBase + BitVec.ofNat 8 k) ∧ loByte addr ≠ c.nvAddr ∧ loByte addr ≠ c.nvData

/-- The test instance with `BANK_DECODE` as a table. -/
def tableConfig : Config := { Config.testInstance with bankDecode := .table (List.replicate 256 31) }

/-- BankAndUnmappedPorts: a window with a bank port and one with none, both forms of `BANK_DECODE`, the first and the
last port of each device, and ports just outside the claimed ones. -/
theorem witness_bank_and_unmapped :
    Config.testInstance.wellFormed = true ∧ tableConfig.wellFormed = true ∧
      Config.testInstance.bankDecode = .modulo 32 ∧ tableConfig.bankDecode = .table (List.replicate 256 31) ∧
      Config.testInstance.bankPort[0]? = some (some (loByte 0xAB30#16)) ∧
      Config.testInstance.bankPort[1]? = some none ∧
      loByte 0x1200#16 = Config.testInstance.uartData ∧ loByte 0x1201#16 = Config.testInstance.uartStatus ∧
      loByte 0x0010#16 = Config.testInstance.diskBase + BitVec.ofNat 8 0 ∧
      loByte 0x0017#16 = Config.testInstance.diskBase + BitVec.ofNat 8 7 ∧
      loByte 0x0020#16 = Config.testInstance.nvAddr ∧ loByte 0x0021#16 = Config.testInstance.nvData ∧
      portUnmapped Config.testInstance 0x1202#16 ∧ portUnmapped Config.testInstance 0x0018#16 ∧
      portUnmapped Config.testInstance 0xFFFF#16 := by
  unfold portUnmapped
  decide +kernel

/-- ConsoleUart: the status port, and the data port with an empty queue and with a byte waiting. -/
theorem witness_console_uart :
    State.reset.cfg.wellFormed = true ∧ loByte 0x0001#16 = State.reset.cfg.uartStatus ∧
      loByte 0xFF00#16 = State.reset.cfg.uartData ∧ State.reset.uart.rx = [] ∧
      (State.reset.hostQueueInput 0x41#8).uart.rx = 0x41#8 :: [] := by decide +kernel

/-- DiskRegisters: each register of the controller, and the first and last byte of the sector number. -/
theorem witness_disk_registers :
    State.reset.cfg.wellFormed = true ∧ loByte 0x0010#16 = State.reset.cfg.diskBase ∧
      loByte 0x0011#16 = State.reset.cfg.diskBase + BitVec.ofNat 8 (0 + 1) ∧
      loByte 0x0014#16 = State.reset.cfg.diskBase + BitVec.ofNat 8 (3 + 1) ∧
      loByte 0x0015#16 = State.reset.cfg.diskBase + 5#8 ∧ loByte 0x0017#16 = State.reset.cfg.diskBase + 7#8 := by
  decide +kernel

/-- A controller with a disk of two sectors of two bytes in unit 3. -/
def diskState (st : XferState) (idx : Nat) (lba : BitVec 32) : State :=
  { State.reset with
    cfg := { Config.testInstance with sectorSize := 2 }
    disk :=
      { (Disk.init 2).changeUnit 3 (fun r =>
          { r with loaded := true, image := [1#8, 2#8, 3#8, 4#8], total := 2, slices := 8 }) with
        dkUnit := 3#4, dkLba := lba, dkState := st, dkIdx := idx, dkCurUnit := 3#4, dkCurLba := 1#32
        dkBuf := [0x11#8, 0x22#8] } }

/-- DiskCommand: the last sector, the first one beyond it, and a unit with nothing loaded; each kind of command. -/
theorem witness_disk_command :
    (diskState .idle 0 1#32).cfg.wellFormed = true ∧ loByte 0x0015#16 = (diskState .idle 0 1#32).cfg.diskBase + 5#8 ∧
      ((diskState .idle 0 1#32).disk.unitAt 3#4).loaded = true ∧
      (diskState .idle 0 1#32).disk.dkLba.toNat < ((diskState .idle 0 1#32).disk.unitAt 3#4).total ∧
      ((diskState .idle 0 2#32).disk.unitAt 3#4).total ≤ (diskState .idle 0 2#32).disk.dkLba.toNat ∧
      ((diskState .idle 0 1#32).disk.unitAt 4#4).loaded = false ∧
      (0x03#8 : Byte) ≠ 0#8 ∧ (0x03#8 : Byte) ≠ 1#8 ∧ (0x03#8 : Byte) ≠ 2#8 := by decide +kernel

/-- The invariant holds of a controller in any state of a transfer. -/
theorem diskState_inv (st : XferState) (idx : Nat) (lba : BitVec 32) (h : idx < 2) (h0 : st = .idle → idx = 0) :
    (diskState st idx lba).Inv where
  config := by
    change ({ Config.testInstance with sectorSize := 2 }).wellFormed = true
    decide +kernel
  canonical := List.Pairwise.nil
  inRange := fun x hx => by cases hx
  windows := rfl
  pages := by
    change ∀ p ∈ [0, 31], p < 32
    decide
  buffer := rfl
  index := h
  idleIndex := h0
  units := by
    intro u
    change ((diskState .idle 0 0#32).disk.unitAt u).Ok 2
    unfold DiskUnit.Ok
    revert u
    decide +kernel
  transfer := by
    intro _
    change (1#32).toNat < ((diskState .idle 0 0#32).disk.unitAt 3#4).total
    decide +kernel
  checksum := .inl rfl
  bridgeIdle := rfl
  enables := fun h => by cases h
  delay := fun h => by cases h

/-- DiskData: a read and a write in flight, each at a byte before the last and at the last, and no transfer. -/
theorem witness_disk_data :
    loByte 0x0016#16 = Config.testInstance.diskBase + 6#8 ∧
      ((diskState .readXfer 0 0#32).Inv ∧ (diskState .readXfer 0 0#32).disk.dkState = .readXfer) ∧
      ((diskState .readXfer 1 0#32).Inv ∧ (diskState .readXfer 1 0#32).disk.dkIdx + 1 = 2) ∧
      ((diskState .writeXfer 0 0#32).Inv ∧ (diskState .writeXfer 0 0#32).disk.dkIdx + 1 ≠ 2) ∧
      ((diskState .writeXfer 1 0#32).Inv ∧ (diskState .writeXfer 1 0#32).disk.dkIdx + 1 = 2) ∧
      (diskState .idle 0 0#32).Inv := by
  refine ⟨by decide, ⟨diskState_inv _ _ _ ?_ ?_, rfl⟩, ⟨diskState_inv _ _ _ ?_ ?_, rfl⟩,
    ⟨diskState_inv _ _ _ ?_ ?_, by decide⟩, ⟨diskState_inv _ _ _ ?_ ?_, rfl⟩, diskState_inv _ _ _ ?_ ?_⟩ <;> decide

/-- A state with `NV_INDEX` as given. -/
def nvState (k : Byte) : State := { State.reset with nvram := { State.reset.nvram with addr := k } }

/-- NvramPorts: the index port, and the data port at indexes 0, 3, 4, 5 and 255. -/
theorem witness_nvram_ports :
    State.reset.cfg.wellFormed = true ∧ loByte 0x0020#16 = State.reset.cfg.nvAddr ∧
      loByte 0x0021#16 = State.reset.cfg.nvData ∧
      (nvState 0#8).nvram.addr.toNat ≤ 3 ∧ (nvState 3#8).nvram.addr.toNat ≤ 3 ∧
      4 ≤ (nvState 4#8).nvram.addr.toNat ∧ (nvState 4#8).nvram.addr.toNat ≤ 4 ∧
      5 ≤ (nvState 5#8).nvram.addr.toNat ∧ 5 ≤ (nvState 255#8).nvram.addr.toNat := by decide +kernel

/-- A state like that after reset, with a CPU and interrupt inputs of its own. -/
def interrupted (cpu : Cpu) (pins : Pins) : State := { State.reset with cpu := cpu, pins := pins }

/-- NonMaskableInterrupt. -/
theorem witness_nmi :
    let s := interrupted Cpu.reset { nmiPending := true, intLine := true, intData := 0x00#8 }
    s.cfg.wellFormed = true ∧ s.pins.nmiPending = true := by decide +kernel

/-- The non-maskable interrupt saves IFF1's companion: IFF1 clear, IFF2 kept (60_exceptions.md rule R505). -/
theorem test_nmi :
    steps (interrupted { Cpu.reset with pc := 0x1234#16, sp := 0x9000#16, iff1 := true, iff2 := true, halted := true }
        { nmiPending := true, intLine := true, intData := 0x00#8 })
      (fun t => t.cpu.pc == 0x0066#16 && t.cpu.sp == 0x8FFE#16 && t.readByte 0x8FFF#16 == 0x12#8 &&
        t.readByte 0x8FFE#16 == 0x34#8 && !t.cpu.iff1 && t.cpu.iff2 && !t.cpu.halted && !t.pins.nmiPending) = true := by
  decide +kernel

/-- A maskable interrupt in mode 2: the low bit of the byte is ignored (60_exceptions.md rule R508). -/
theorem test_int_mode2 :
    steps
      { flat [(0x20FE, 0x00), (0x20FF, 0x30)]
          { Cpu.reset with pc := 0x1234#16, sp := 0x9000#16, i := 0x20#8, iff1 := true, iff2 := true, im := .im2 } with
        pins := { nmiPending := false, intLine := true, intData := 0xFF#8 } }
      (fun t => t.cpu.pc == 0x3000#16 && t.cpu.sp == 0x8FFE#16 && !t.cpu.iff1 && !t.cpu.iff2) = true := by
  decide +kernel

/-- Right after `EI` no maskable interrupt is accepted (60_exceptions.md rule R502). -/
theorem test_ei_delay :
    steps
      { flat [(0x1000, 0x00)] { Cpu.reset with pc := 0x1000#16, iff1 := true, iff2 := true, im := .im1, eiDelay := true } with
        pins := { nmiPending := false, intLine := true, intData := 0xFF#8 } }
      (fun t => t.cpu.pc == 0x1001#16 && !t.cpu.eiDelay && t.cpu.iff1) = true := by decide +kernel

/-- MaskableInterrupt: a state with the interrupt mode and the byte as given. -/
def maskable (im : InterruptMode) (data : Byte) : State :=
  interrupted { Cpu.reset with iff1 := true, iff2 := true, im := im, i := 0xFF#8 }
    { nmiPending := false, intLine := true, intData := data }

/-- MaskableInterrupt: a restart in mode 0 (the first and the last one), a byte that is none, modes 1 and 2. -/
theorem witness_maskable_interrupt :
    (maskable .im0 0xFF#8).cfg.wellFormed = true ∧ (maskable .im0 0xFF#8).pins.nmiPending = false ∧
      (maskable .im0 0xFF#8).pins.intLine = true ∧ (maskable .im0 0xFF#8).cpu.iff1 = true ∧
      (maskable .im0 0xFF#8).cpu.eiDelay = false ∧
      (maskable .im0 0xFF#8).pins.intData = 0b11#2 ++ 7#3 ++ 0b111#3 ∧
      (maskable .im0 0xC7#8).pins.intData = 0b11#2 ++ 0#3 ++ 0b111#3 ∧
      (∀ y : BitVec 3, (maskable .im0 0x00#8).pins.intData ≠ 0b11#2 ++ y ++ 0b111#3) ∧
      (maskable .im1 0x00#8).cpu.im = .im1 ∧ (maskable .im2 0x00#8).cpu.im = .im2 ∧
      (0xFFFE#16).toNat = (maskable .im2 0xFF#8).cpu.i.toNat * 256 + (maskable .im2 0xFF#8).pins.intData.toNat / 2 * 2 := by
  decide +kernel

/-- HaltedCycle: halted with no request, with interrupts disabled, and right after `EI`. -/
theorem witness_halted_cycle :
    let s (cpu : Cpu) (line : Bool) := interrupted cpu { nmiPending := false, intLine := line, intData := 0x00#8 }
    (s { Cpu.reset with halted := true } false).cfg.wellFormed = true ∧
      (s { Cpu.reset with halted := true } false).cpu.halted = true ∧
      (s { Cpu.reset with halted := true } false).pins.intLine = false ∧
      (s { Cpu.reset with halted := true } true).cpu.iff1 = false ∧
      (s { Cpu.reset with halted := true, iff1 := true, iff2 := true, eiDelay := true } true).cpu.eiDelay = true := by
  decide +kernel

/-- A non-maskable interrupt with the stack in RAM. -/
def nmiState : State :=
  interrupted { Cpu.reset with pc := 0x1234#16, sp := 0x9000#16, iff1 := true, iff2 := true }
    { nmiPending := true, intLine := false, intData := 0x00#8 }

/-- The invariant holds of it. -/
theorem nmiState_inv : nmiState.Inv where
  config := by decide +kernel
  canonical := by decide +kernel
  inRange := by decide +kernel
  windows := by decide +kernel
  pages := by decide +kernel
  buffer := by decide +kernel
  index := by decide +kernel
  idleIndex := by decide +kernel
  units := by
    intro u
    unfold DiskUnit.Ok
    revert u
    decide +kernel
  transfer := by decide +kernel
  checksum := .inl rfl
  bridgeIdle := rfl
  enables := by decide +kernel
  delay := by decide +kernel

/-- ReturnFromNonMaskable. -/
theorem witness_return_from_nmi :
    nmiState.Inv ∧ nmiState.pins.nmiPending = true ∧ nmiState.isRom (nmiState.cpu.sp - 1#16) = false ∧
      nmiState.isRom (nmiState.cpu.sp - 2#16) = false :=
  ⟨nmiState_inv, by decide +kernel⟩

/-- StepKeepsTheInvariant, RomIsNeverChanged. -/
theorem witness_step_next : nmiState.Inv ∧ step nmiState = .next nmiState.acceptNmi :=
  ⟨nmiState_inv, (if_neg (by decide +kernel)).trans (if_pos (by decide +kernel))⟩

/-- BankAndUnmappedPorts: a step from a state whose window 1 has no bank port. -/
theorem witness_window_without_port :
    nmiState.cfg.wellFormed = true ∧ nmiState.cfg.bankPort[1]? = some none ∧ step nmiState = .next nmiState.acceptNmi :=
  ⟨nmiState_inv.config, by decide +kernel, (if_neg (by decide +kernel)).trans (if_pos (by decide +kernel))⟩

/-- UnspecifiedFlagBits: instructions that compute flags, and instructions that do not. -/
theorem witness_computes_flags :
    computesFlags .scf = true ∧ computesFlags (.inRC .b) = true ∧ computesFlags .nop = false ∧
      computesFlags (.inAN 0#8) = false ∧ computesFlags (.popQq .af) = false ∧ computesFlags .exAfAf = false := by decide

/-- OwnInstructionsOnly, DevicesOnlyByInputOutput: an instruction that keeps the flags, one that
computes them, and `POP AF`. -/
theorem witness_exec_next :
    ¬ IsInputOutput .nop ∧ exec .nop State.reset = .next (State.reset.advance 1) ∧
      (∃ t, exec .scf State.reset = .next t) ∧ ∃ t, exec (.popQq .af) State.reset = .next t :=
  ⟨by simp [IsInputOutput], rfl, ⟨_, rfl⟩, ⟨_, rfl⟩⟩

/-- ResetValues. -/
theorem witness_reset_values : State.reset.life = .running := by decide

/-- HostPollsAndSettings: settings that are accepted at the ends of their ranges, and settings that are not. -/
theorem witness_settings :
    State.reset.life ≠ .uninit ∧ State.reset.cfg.wellFormed = true ∧
      (State.reset.hostSetSetting ['1', '5', '.', '2', '5', '4']).1 = true ∧
      (State.reset.hostSetSetting ['0']).1 = true ∧ (State.reset.hostSetSetting ['z']).1 = true ∧
      (State.reset.hostSetSetting ['m', 'e', 'n', 'u']).1 = true ∧
      (State.reset.hostSetSetting ['1', '6']).1 = false ∧ (State.reset.hostSetSetting ['0', '1']).1 = false ∧
      (State.reset.hostSetSetting ['1', '.', '2', '5', '5']).1 = false ∧
      (State.reset.hostSetSetting []).1 = false := by decide +kernel

/-- HostPollsAndSettings: a string of each accepted form, at the ends of its range. -/
theorem witness_setting_forms :
    State.reset.cfg.nvMenuString = ['m', 'e', 'n', 'u'] ∧ AsciiLetter 'A' ∧ AsciiLetter 'z' ∧
      ['0'] = Nat.toDigits 10 0 ∧ ['1', '5'] = Nat.toDigits 10 15 ∧
      ['0', '.', '0'] = Nat.toDigits 10 0 ++ '.' :: Nat.toDigits 10 0 ∧
      ['1', '5', '.', '2', '5', '4'] = Nat.toDigits 10 15 ++ '.' :: Nat.toDigits 10 254 := by
  unfold AsciiLetter
  decide +kernel

/-- A string that has none of the four forms of a boot option. -/
def malformedSetting (cs : List Char) : Prop :=
  cs ≠ State.reset.cfg.nvMenuString ∧ (∀ c, AsciiLetter c → cs ≠ [c]) ∧ (∀ u, u ≤ 15 → cs ≠ Nat.toDigits 10 u) ∧
    ∀ u t, u ≤ 15 → t ≤ 254 → cs ≠ Nat.toDigits 10 u ++ '.' :: Nat.toDigits 10 t

/-- A string of two characters or more is malformed when no numeral and no pair of numerals in range spells it. -/
theorem malformed_of_numerals (a b : Char) (cs : List Char) (hm : a :: b :: cs ≠ ['m', 'e', 'n', 'u'])
    (h1 : ∀ u : Fin 16, a :: b :: cs ≠ Nat.toDigits 10 u)
    (h2 : ∀ (u : Fin 16) (t : Fin 255), a :: b :: cs ≠ Nat.toDigits 10 u ++ '.' :: Nat.toDigits 10 t) :
    malformedSetting (a :: b :: cs) :=
  ⟨hm, fun _ _ => by simp, fun u hu => h1 ⟨u, by omega⟩, fun u t hu ht => h2 ⟨u, by omega⟩ ⟨t, by omega⟩⟩

/-- HostPollsAndSettings: strings just outside the forms that are accepted (rule R557's own examples). -/
theorem witness_setting_malformed :
    malformedSetting ['1', '6'] ∧ malformedSetting ['0', '7'] ∧ malformedSetting ['2', '.', '2', '5', '5'] ∧
      malformedSetting ['2', '.'] := by
  refine ⟨?_, ?_, ?_, ?_⟩ <;> exact malformed_of_numerals _ _ _ (by decide) (by decide +kernel) (by decide +kernel)

/-- `setSetting("2.3")`: selector 0, unit 2, slice 3 (60_exceptions.md rule R557). -/
theorem test_setting_pair : SetsBootRecord State.reset ['2', '.', '3'] 0x00#8 0x02#8 0x03#8 := by
  unfold SetsBootRecord
  decide +kernel

/-! ### The first step after reset -/

/-- An instruction placed where the next step fetches is run by it. -/
theorem test_with_fetch_word :
    steps (State.reset.withFetchWord 32 0xDD213412) (fun t => t.cpu.ix == 0x1234#16 && t.cpu.pc == 0x0004#16) = true := by
  decide +kernel

end Sys2Proof.Tests
end

section
/-! PROOF. The port table (20_memory.md rules R67, R71, R72): which register a port is, and what an access to that register
may change. -/

namespace Sys2Proof.Machine

/-! ### The access at a register of each device -/

/-- The registers of the disk controller (20_memory.md rule R71). -/
def PortReg.isDisk : PortReg → Bool
  | .dkUnit | .dkLba _ | .dkCommand | .dkData | .dkSlices => true
  | .uartData | .uartStatus | .nvAddr | .nvData | .bank _ | .unmapped => false

/-- Each of the eight ports from `DISK_BASE` on is a register of the disk controller. -/
theorem portReg_isDisk {c : Config} (h : c.wellFormed = true) {k : Nat} (hk : k < 8) :
    (portReg c (c.diskBase + BitVec.ofNat 8 k)).isDisk = true := by
  match k, hk with
  | 0, _ => rw [BitVec.add_zero]; exact congrArg PortReg.isDisk (portReg_dkUnit h)
  | 1, _ => exact congrArg PortReg.isDisk (portReg_dkLba h 0)
  | 2, _ => exact congrArg PortReg.isDisk (portReg_dkLba h 1)
  | 3, _ => exact congrArg PortReg.isDisk (portReg_dkLba h 2)
  | 4, _ => exact congrArg PortReg.isDisk (portReg_dkLba h 3)
  | 5, _ => exact congrArg PortReg.isDisk (portReg_dkCommand h)
  | 6, _ => exact congrArg PortReg.isDisk (portReg_dkData h)
  | 7, _ => exact congrArg PortReg.isDisk (portReg_dkSlices h)

theorem State.io_disk {s : State} {a : Word} (v : Byte) (h : (portReg s.cfg (loByte a)).isDisk = true) :
    (∃ d, (s.ioRead a).2 = { s with disk := d }) ∧ ∃ d, s.ioWrite a v = { s with disk := d } := by
  unfold State.ioRead State.ioWrite
  cases hr : portReg s.cfg (loByte a) <;> rw [hr] at h
  case dkUnit | dkLba | dkCommand | dkData | dkSlices => exact ⟨⟨_, rfl⟩, _, rfl⟩
  all_goals cases h

theorem State.io_uart {s : State} {a : Word} (v : Byte)
    (h : portReg s.cfg (loByte a) = .uartData ∨ portReg s.cfg (loByte a) = .uartStatus) :
    (∃ u, (s.ioRead a).2 = { s with uart := u }) ∧ ∃ u, s.ioWrite a v = { s with uart := u } := by
  unfold State.ioRead State.ioWrite
  rcases h with h | h <;> rw [h] <;> exact ⟨⟨_, rfl⟩, _, rfl⟩

theorem State.io_nvram {s : State} {a : Word} (v : Byte)
    (h : portReg s.cfg (loByte a) = .nvAddr ∨ portReg s.cfg (loByte a) = .nvData) :
    (s.ioRead a).2 = s ∧ ∃ n, s.ioWrite a v = { s with nvram := n } := by
  unfold State.ioRead State.ioWrite
  rcases h with h | h <;> rw [h] <;> exact ⟨rfl, _, rfl⟩

theorem State.io_bank {s : State} {a : Word} (v : Byte) {w : Nat} (h : portReg s.cfg (loByte a) = .bank w) :
    s.ioRead a = (s.cfg.idleValue, s) ∧ s.ioWrite a v = s.bankSelect w v := by
  unfold State.ioRead State.ioWrite
  rw [h]
  exact ⟨rfl, rfl⟩

theorem State.io_unmapped {s : State} {a : Word} (v : Byte) (h : portReg s.cfg (loByte a) = .unmapped) :
    s.ioRead a = (s.cfg.idleValue, s) ∧ s.ioWrite a v = s := by
  unfold State.ioRead State.ioWrite
  rw [h]
  exact ⟨rfl, rfl⟩

/-! ### Claimed ports and `BANK_DECODE` -/

/-- The claims of rule R71, with the eight disk ports given by their offset. -/
theorem Config.not_mem_claimedPorts {c : Config} {p : Byte} (hb : some p ∉ c.bankPort) (hu : p ≠ c.uartData)
    (hus : p ≠ c.uartStatus) (hd : ∀ k, k < 8 → p ≠ c.diskBase + BitVec.ofNat 8 k) (hna : p ≠ c.nvAddr)
    (hnd : p ≠ c.nvData) : p ∉ c.claimedPorts := by
  have hbank : p ∉ c.bankPort.filterMap id := by simpa [List.mem_filterMap] using hb
  have hd0 : p ≠ c.diskBase := by simpa using hd 0 (by omega)
  simp only [Config.claimedPorts, List.mem_append, List.mem_cons, List.not_mem_nil, or_false, not_or]
  exact ⟨hbank, hu, hus, hd0, hd 1 (by omega), hd 2 (by omega), hd 3 (by omega), hd 4 (by omega), hd 5 (by omega),
    hd 6 (by omega), hd 7 (by omega), hna, hnd⟩

/-- A well-formed table has an entry for every byte, and `BANK_DECODE` answers it (00_scope.md rule R5). -/
theorem getElem?_bankDecode_table {pages : List Nat} {n : Nat} (h : (BankDecode.table pages).wellFormed n = true)
    (v : Byte) : pages[v.toNat]? = some (bankDecode (.table pages) v) := by
  simp only [BankDecode.wellFormed, Bool.and_eq_true, beq_iff_eq] at h
  have hv : v.toNat < pages.length := by rw [h.1]; exact v.isLt
  simp [bankDecode, hv]

/-- Settles O43: the port table gives each port its register, and an access to a register changes its device alone; that
a window with no port keeps its page through a step is `step_window_kept`. -/
theorem bankAndUnmappedPorts : Obligations.BankAndUnmappedPorts := by
  unfold Obligations.BankAndUnmappedPorts
  intro s addr v hc
  obtain ⟨-, -, -, hpages, hdecode, -⟩ := Config.bounds hc
  refine ⟨fun w hw => State.io_bank v (portReg_bank hc hw), bankDecode_lt hdecode (by omega) v, ?modulo, ?table,
    fun w hw => ⟨State.ioWrite_window hc hw addr v, fun t ht => step_window_kept ht hw⟩, ?uart, ?disk, ?nvram, ?other⟩
  case modulo => intro m hm; rw [hm]; rfl
  case table => intro pages hp; rw [hp] at hdecode ⊢; exact getElem?_bankDecode_table hdecode v
  case uart =>
    rintro (hp | hp)
    · exact State.io_uart v (.inl (hp ▸ portReg_uartData s.cfg))
    · exact State.io_uart v (.inr (hp ▸ portReg_uartStatus hc))
  case disk =>
    intro k hk hp
    exact State.io_disk v (hp ▸ portReg_isDisk hc hk)
  case nvram =>
    rintro (hp | hp)
    · exact State.io_nvram v (.inl (hp ▸ portReg_nvAddr hc))
    · exact State.io_nvram v (.inr (hp ▸ portReg_nvData hc))
  case other =>
    intro hb hu hus hd hna hnd
    exact State.io_unmapped v (portReg_unmapped (Config.not_mem_claimedPorts hb hu hus hd hna hnd))

end Sys2Proof.Machine
end

section
/-! PROOF. The registers that only their own instructions change (10_state.md rules R22, R29 to R34) and the unspecified
bits of F (10_state.md rule R27): said once for every instruction that leaves those registers alone, then for the
eleven that own them and for `POP AF`. -/

namespace Sys2Proof.Machine

/-- The registers that have instructions of their own, in a CPU whose other registers are as after a reset: two CPUs
agree on them when these are equal. -/
def Cpu.owned (x : Cpu) : Cpu :=
  { Cpu.reset with
    shA := x.shA, shF := x.shF, shB := x.shB, shC := x.shC, shD := x.shD, shE := x.shE, shH := x.shH, shL := x.shL
    i := x.i, r := x.r, im := x.im, iff1 := x.iff1, iff2 := x.iff2, halted := x.halted, eiDelay := x.eiDelay }

/-- From `s` to `t` the owned registers keep their values, and F is computed with one draw for its bits 5 and 3, or,
when `computes` is false, is kept without a draw. -/
structure Ordinary (computes : Bool) (s t : State) : Prop where
  owned : t.cpu.owned = s.cpu.owned
  drawn : computes = true →
    t.draws = s.draws + 1 ∧ t.cpu.f.f5 = (Config.drawByte s.draws).getLsbD 5 ∧
      t.cpu.f.f3 = (Config.drawByte s.draws).getLsbD 3
  kept : computes = false → t.draws = s.draws ∧ t.cpu.f = s.cpu.f

/-! ### The operations -/

section
variable {c : Bool} {s t : State}

theorem Ordinary.refl (s : State) : Ordinary false s s := ⟨rfl, nofun, fun _ => ⟨rfl, rfl⟩⟩

/-- An operation that leaves the owned registers, F and the counter of draws alone. -/
theorem Ordinary.update {u : State} (h : Ordinary c s t) (ho : u.cpu.owned = t.cpu.owned) (hf : u.cpu.f = t.cpu.f)
    (hd : u.draws = t.draws) : Ordinary c s u := by
  obtain ⟨h1, h2, h3⟩ := h
  exact ⟨ho.trans h1, hf ▸ hd ▸ h2, hf ▸ hd ▸ h3⟩

theorem Ordinary.setReg (h : Ordinary c s t) (r : Reg8) (v : Byte) : Ordinary c s (t.setReg r v) := by
  cases r <;> exact h.update rfl rfl rfl

theorem Ordinary.setPair (h : Ordinary c s t) (p : Pair) (v : Word) : Ordinary c s (t.setPair p v) := by
  cases p <;> exact h.update rfl rfl rfl

theorem Ordinary.setBc (h : Ordinary c s t) (v : Word) : Ordinary c s (t.setBc v) := h.setPair .bc v

theorem Ordinary.setDe (h : Ordinary c s t) (v : Word) : Ordinary c s (t.setDe v) := h.setPair .de v

theorem Ordinary.setHl (h : Ordinary c s t) (v : Word) : Ordinary c s (t.setHl v) := h.setPair .hl v

theorem Ordinary.setSp (h : Ordinary c s t) (v : Word) : Ordinary c s (t.setSp v) := h.setPair .sp v

theorem Ordinary.setIx (h : Ordinary c s t) (v : Word) : Ordinary c s (t.setIx v) := h.update rfl rfl rfl

theorem Ordinary.setIy (h : Ordinary c s t) (v : Word) : Ordinary c s (t.setIy v) := h.update rfl rfl rfl

theorem Ordinary.setPc (h : Ordinary c s t) (v : Word) : Ordinary c s (t.setPc v) := h.update rfl rfl rfl

theorem Ordinary.advance (h : Ordinary c s t) (n : Nat) : Ordinary c s (t.advance n) := h.setPc _

theorem Ordinary.store (h : Ordinary c s t) (a : Word) (v : Byte) : Ordinary c s (t.writeByte a v) :=
  h.update (by simp) (by simp) (by simp)

theorem Ordinary.portRead (h : Ordinary c s t) (a : Word) : Ordinary c s (t.ioRead a).2 :=
  h.update (by simp) (by simp) (by simp)

theorem Ordinary.portWrite (h : Ordinary c s t) (a : Word) (v : Byte) : Ordinary c s (t.ioWrite a v) :=
  h.update (by simp) (by simp) (by simp)

theorem Ordinary.writeWord (h : Ordinary c s t) (a v : Word) : Ordinary c s (t.writeWord a v) :=
  (h.store a _).store _ _

theorem Ordinary.storeTop (h : Ordinary c s t) (v : Word) : Ordinary c s (t.storeTop v) := (h.store _ _).store _ _

theorem Ordinary.push16 (h : Ordinary c s t) (v : Word) : Ordinary c s (t.push16 v) :=
  (((h.setSp _).store _ _).setSp _).store _ _

theorem Ordinary.pop16 (h : Ordinary c s t) : Ordinary c s t.pop16.2 := (h.setSp _).setSp _

theorem Ordinary.returnFrom (h : Ordinary c s t) : Ordinary c s t.returnFrom := h.pop16.setPc _

theorem Ordinary.call (h : Ordinary c s t) (n : Nat) (v : Word) : Ordinary c s (t.call n v) := (h.push16 _).setPc v

/-- F computed: the one draw of the instruction. -/
theorem Ordinary.setFlags (h : Ordinary false s t) (f : Fl) : Ordinary true s (t.setFlags f) := by
  obtain ⟨hd, -⟩ := h.kept rfl
  exact ⟨h.owned, fun _ => by simp [hd], nofun⟩

/-- F computed after block I/O: the one draw of the instruction. -/
theorem Ordinary.setFlagsBlockIo (h : Ordinary false s t) (z : Bool) : Ordinary true s (t.setFlagsBlockIo z) := by
  obtain ⟨hd, -⟩ := h.kept rfl
  exact ⟨h.owned, fun _ => by simp [hd], nofun⟩

theorem Ordinary.setA (h : Ordinary false s t) (p : Byte × Fl) : Ordinary true s (t.setA p) :=
  (h.setReg .a _).setFlags _

theorem Ordinary.setRegFlags (h : Ordinary false s t) (r : Reg8) (p : Byte × Fl) :
    Ordinary true s (t.setRegFlags r p) := (h.setReg r _).setFlags _

theorem Ordinary.modify (h : Ordinary false s t) (a : Word) (p : Byte × Fl) : Ordinary true s (t.modify a p) :=
  (h.store a _).setFlags _

theorem Ordinary.rotateA (h : Ordinary false s t) (op : RotOp) : Ordinary true s (t.rotateA op) :=
  (h.setReg .a _).setFlags _

theorem Ordinary.blockLoad (h : Ordinary false s t) (step : Word) : Ordinary true s (t.blockLoad step) :=
  ((((h.store _ _).setHl _).setDe _).setBc _).setFlags _

theorem Ordinary.blockCompare (h : Ordinary false s t) (step : Word) : Ordinary true s (t.blockCompare step) :=
  ((h.setHl _).setBc _).setFlags _

theorem Ordinary.blockIn (h : Ordinary false s t) (step : Word) : Ordinary true s (t.blockIn step) :=
  ((((h.portRead _).store _ _).setHl _).setReg .b _).setFlagsBlockIo _

theorem Ordinary.blockOut (h : Ordinary false s t) (step : Word) : Ordinary true s (t.blockOut step) :=
  (((h.setReg .b _).portWrite _ _).setHl _).setFlagsBlockIo _

/-! ### The instructions -/

/-- An outcome is a next state that an ordinary instruction may give. -/
def Gives (computes : Bool) (s : State) (o : Result) : Prop := ∃ t, o = .next t ∧ Ordinary computes s t

theorem Ordinary.next (h : Ordinary c s t) : Gives c s (.next t) := ⟨t, rfl, h⟩

theorem Ordinary.done (h : Ordinary c s t) (n : Nat) : Gives c s (t.done n) := (h.advance n).next

theorem Ordinary.repeatUnless (h : Ordinary c s t) (b : Bool) : Gives c s (t.repeatUnless b) := by
  cases b
  · exact h.next
  · exact h.done 2

theorem Ordinary.jumpRelIf (h : Ordinary c s t) (b : Bool) (e : Byte) : Gives c s (t.jumpRelIf b e) := by
  cases b
  · exact h.done 2
  · exact (h.setPc _).next

theorem Gives.ite {b : Bool} {o p : Result} (h : Gives c s o) (k : Gives c s p) :
    Gives c s (if b = true then o else p) := by
  cases b
  · exact k
  · exact h

end

/-- The instructions that own a register, and `POP AF`, which loads F. -/
inductive SpecialInstr : Instr → Prop where
  | exAfAf : SpecialInstr .exAfAf
  | exx : SpecialInstr .exx
  | ldIA : SpecialInstr .ldIA
  | ldRefreshA : SpecialInstr .ldRefreshA
  | im0 : SpecialInstr .im0
  | im1 : SpecialInstr .im1
  | im2 : SpecialInstr .im2
  | di : SpecialInstr .di
  | ei : SpecialInstr .ei
  | retn : SpecialInstr .retn
  | halt : SpecialInstr .halt
  | popAf : SpecialInstr (.popQq .af)

/-- Every other instruction is ordinary, and computes flags exactly when its rule says so: one line per shape of
meaning. -/
theorem exec_ordinary {i : Instr} (hi : ¬ SpecialInstr i) (s : State) : Gives (computesFlags i) s (exec i s) := by
  have r := Ordinary.refl s
  cases i
  case exAfAf => exact absurd .exAfAf hi
  case exx => exact absurd .exx hi
  case ldIA => exact absurd .ldIA hi
  case ldRefreshA => exact absurd .ldRefreshA hi
  case im0 => exact absurd .im0 hi
  case im1 => exact absurd .im1 hi
  case im2 => exact absurd .im2 hi
  case di => exact absurd .di hi
  case ei => exact absurd .ei hi
  case retn => exact absurd .retn hi
  case halt => exact absurd .halt hi
  case popQq qq =>
    cases qq
    case af => exact absurd .popAf hi
    case bc => exact (r.pop16.setPair .bc _).done _
    case de => exact (r.pop16.setPair .de _).done _
    case hl => exact (r.pop16.setPair .hl _).done _
  -- F kept
  case nop => exact r.done _
  case ldRR | ldRN | ldRHl | ldRIxd | ldRIyd | ldABc | ldADe | ldANn | setBR | resBR => exact (r.setReg _ _).done _
  case ldHlR | ldIxdR | ldIydR | ldHlN | ldIxdN | ldIydN | ldBcA | ldDeA | ldNnA => exact (r.store _ _).done _
  case setBHl | setBIxd | setBIyd | resBHl | resBIxd | resBIyd => exact (r.store _ _).done _
  case ldDdNn | ldDdMem | incSs | decSs => exact (r.setPair _ _).done _
  case ldIxNn | ldIxMem | incIx | decIx => exact (r.setIx _).done _
  case ldIyNn | ldIyMem | incIy | decIy => exact (r.setIy _).done _
  case ldHlMem => exact (r.setHl _).done _
  case ldSpHl | ldSpIx | ldSpIy => exact (r.setSp _).done _
  case ldMemHl | ldMemDd | ldMemIx | ldMemIy => exact (r.writeWord _ _).done _
  case pushQq | pushIx | pushIy => exact (r.push16 _).done _
  case popIx => exact (r.pop16.setIx _).done _
  case popIy => exact (r.pop16.setIy _).done _
  case exDeHl => exact ((r.setDe _).setHl _).done _
  case exSpHl => exact ((r.storeTop _).setHl _).done _
  case exSpIx => exact ((r.storeTop _).setIx _).done _
  case exSpIy => exact ((r.storeTop _).setIy _).done _
  case jpNn | jrE | jpHl | jpIx | jpIy => exact (r.setPc _).next
  case jpCcNn => exact (r.setPc _).next.ite (r.done _)
  case jrCE | jrNcE | jrZE | jrNzE => exact r.jumpRelIf _ _
  case djnzE => exact (r.setReg .b _).jumpRelIf _ _
  case callNn | rstP => exact (r.call _ _).next
  case callCcNn => exact (r.call _ _).next.ite (r.done _)
  case ret | reti => exact r.returnFrom.next
  case retCc => exact r.returnFrom.next.ite (r.done _)
  case inAN => exact ((r.portRead _).setReg _ _).done _
  case outNA | outCR => exact (r.portWrite _ _).done _
  -- F computed
  case addAR | addAN | addAHl | addAIxd | addAIyd | adcAR | adcAN | adcAHl | adcAIxd | adcAIyd =>
    exact (r.setA _).done _
  case subR | subN | subHl | subIxd | subIyd | sbcAR | sbcAN | sbcAHl | sbcAIxd | sbcAIyd => exact (r.setA _).done _
  case andR | andN | andHl | andIxd | andIyd | xorR | xorN | xorHl | xorIxd | xorIyd => exact (r.setA _).done _
  case orR | orN | orHl | orIxd | orIyd | daa | neg => exact (r.setA _).done _
  case cpR | cpN | cpHl | cpIxd | cpIyd | ccf | scf | bitBR | bitBHl | bitBIxd | bitBIyd =>
    exact (r.setFlags _).done _
  case ldAI | ldARefresh | cpl => exact ((r.setReg .a _).setFlags _).done _
  case incR | decR | rlcR | rrcR | rlR | rrR | slaR | sraR | srlR => exact (r.setRegFlags _ _).done _
  case incHl | incIxd | incIyd | decHl | decIxd | decIyd => exact (r.modify _ _).done _
  case rlcHl | rlcIxd | rlcIyd | rrcHl | rrcIxd | rrcIyd | rlHl | rlIxd | rlIyd | rrHl | rrIxd | rrIyd =>
    exact (r.modify _ _).done _
  case slaHl | slaIxd | slaIyd | sraHl | sraIxd | sraIyd | srlHl | srlIxd | srlIyd => exact (r.modify _ _).done _
  case rlca | rla | rrca | rra => exact (r.rotateA _).done _
  case rld | rrd => exact (((r.store _ _).setReg .a _).setFlags _).done _
  case addHlSs | adcHlSs | sbcHlSs => exact ((r.setHl _).setFlags _).done _
  case addIxPp => exact ((r.setIx _).setFlags _).done _
  case addIyRr => exact ((r.setIy _).setFlags _).done _
  case ldi | ldd => exact (r.blockLoad _).done _
  case ldir | lddr => exact (r.blockLoad _).repeatUnless _
  case cpi | cpd => exact (r.blockCompare _).done _
  case cpir | cpdr => exact (r.blockCompare _).repeatUnless _
  case inRC => exact (((r.portRead _).setReg _ _).setFlags _).done _
  case ini | ind => exact (r.blockIn _).done _
  case inir | indr => exact (r.blockIn _).repeatUnless _
  case outi | outd => exact (r.blockOut _).done _
  case otir | otdr => exact (r.blockOut _).repeatUnless _

/-- Settles O57: an ordinary instruction keeps every owned register, and each special one changes its own alone. -/
theorem ownInstructionsOnly : Obligations.OwnInstructionsOnly := by
  unfold Obligations.OwnInstructionsOnly
  intro i s t h
  by_cases hi : SpecialInstr i
  · cases hi <;> obtain rfl := Host.Outcome.next.inj h <;>
      simp [State.returnFrom_eq, State.pop16_state, State.setPairQ_cpu]
  · obtain ⟨u, hu, ho, -, -⟩ := exec_ordinary hi s
    obtain rfl : t = u := Host.Outcome.next.inj (h.symm.trans hu)
    simp only [Cpu.owned, Cpu.mk.injEq] at ho
    simp [ho]

/-- Settles O59: an ordinary instruction that computes flags makes the one draw, and any other keeps F; of the special
ones `POP AF` and `EX AF,AF'` load F whole and the rest keep it. -/
theorem unspecifiedFlagBits : Obligations.UnspecifiedFlagBits := by
  unfold Obligations.UnspecifiedFlagBits
  intro i s
  by_cases hi : SpecialInstr i
  · cases hi <;> refine ⟨_, rfl, ?_⟩ <;>
      simp [computesFlags, State.returnFrom_eq, State.pop16_state, State.pop16_value, State.setPairQ_cpu, Flags.ofByte]
  · obtain ⟨t, ht, ho⟩ := exec_ordinary hi s
    refine ⟨t, ht, ho.drawn, fun hc => ?_, ?popAf, ?exAfAf⟩
    · obtain ⟨hd, hf⟩ := ho.kept hc
      exact ⟨hd, fun _ _ => hf⟩
    case popAf => rintro rfl; exact absurd .popAf hi
    case exAfAf => rintro rfl; exact absurd .exAfAf hi

end Sys2Proof.Machine
end

section
/-! PROOF. The invariant of the machine, part by part: memory, the disk controller, the NVRAM record, the interrupt
enables. Each operation keeps its part, so every instruction and every step keeps the whole; and no store reaches ROM. -/

namespace Sys2Proof.Machine

/-! ### The parts -/

/-- Memory's part of the invariant. -/
structure MemUnit.Ok (m : MemUnit) (c : Config) : Prop where
  canonical : Memory.wf m.bytes
  inRange : ∀ x ∈ m.bytes, x.1 < c.physSize
  windows : m.map.length = c.nWindows
  pages : ∀ p ∈ m.map, p < c.nPhysPages

/-- The disk controller's part of the invariant. -/
structure Disk.Ok (d : Disk) (sectorSize : Nat) : Prop where
  buffer : d.dkBuf.length = sectorSize
  index : d.dkIdx < sectorSize
  idleIndex : d.dkState = .idle → d.dkIdx = 0
  units : ∀ u, (d.unitAt u).Ok sectorSize
  transfer : d.dkState ≠ .idle → d.dkCurLba.toNat < (d.unitAt d.dkCurUnit).total

/-- The NVRAM record's part of the invariant. -/
def NvRecord.Ok (nv : NvRecord) (k : NvChecksum) : Prop := nv = Nvram.init.record ∨ nv.sealed k = nv

/-- The interrupt enables' part of the invariant. -/
structure Cpu.EnablesOk (x : Cpu) : Prop where
  enables : x.iff1 = true → x.iff2 = true
  delay : x.eiDelay = true → x.iff1 = true

/-- The invariant but for the CPU's part. -/
structure State.DataOk (s : State) : Prop where
  config : s.cfg.wellFormed = true
  mem : s.mem.Ok s.cfg
  disk : s.disk.Ok s.cfg.sectorSize
  nvram : s.nvram.record.Ok s.cfg.nvChecksum
  bridge : s.bridge = { state := .idle, name := [], buffer := [] }

/-- The invariant is its parts. -/
theorem State.inv_iff (s : State) : s.Inv ↔ s.DataOk ∧ s.cpu.EnablesOk := by
  constructor
  · intro h
    exact ⟨⟨h.config, ⟨h.canonical, h.inRange, h.windows, h.pages⟩,
      ⟨h.buffer, h.index, h.idleIndex, h.units, h.transfer⟩, h.checksum, h.bridgeIdle⟩, h.enables, h.delay⟩
  · rintro ⟨⟨hc, hm, hd, hn, hb⟩, he⟩
    exact ⟨hc, hm.canonical, hm.inRange, hm.windows, hm.pages, hd.buffer, hd.index, hd.idleIndex, hd.units,
      hd.transfer, hn, hb, he.enables, he.delay⟩

/-! ### The disk controller -/

section
variable {d : Disk} {size : Nat}

/-- A controller with no disk loaded. -/
theorem Disk.init_ok (h : 1 ≤ size) : (Disk.init size).Ok size where
  buffer := List.length_replicate
  index := h
  idleIndex _ := rfl
  units u := by
    have hu : (Disk.init size).unitAt u = DiskUnit.empty := by simp [Disk.init, Disk.unitAt]
    rw [hu]
    exact ⟨(Nat.zero_mul size).symm, fun _ => ⟨rfl, rfl⟩⟩
  transfer h := absurd rfl h

/-- No transfer: the index is 0, and the buffer, the units and the current sector do not matter. -/
theorem Disk.Ok.toIdle (h : d.Ok size) (e : Bool) : Disk.Ok { d with dkState := .idle, dkIdx := 0, dkErr := e } size :=
  ⟨h.buffer, Nat.zero_lt_of_lt h.index, fun _ => rfl, h.units, fun hi => absurd rfl hi⟩

/-- A command to CMD (60_exceptions.md rule R534). -/
theorem Disk.Ok.command (h : d.Ok size) (v : Byte) : (d.command size v).Ok size := by
  have hpos : 0 < size := Nat.zero_lt_of_lt h.index
  have hlba : d.sectorExists = true → d.dkLba.toNat < (d.unitAt d.dkUnit).total := fun he => by
    simpa using (Bool.and_eq_true_iff.1 he).2
  unfold Disk.command
  split_ifs with hreset hread he hwrite he
  · exact h.toIdle false
  · -- a sector that exists is read into the buffer
    obtain ⟨himage, -⟩ := h.units d.dkUnit
    exact ⟨readSector_length himage (hlba he), hpos, nofun, h.units, fun _ => hlba he⟩
  · exact h.toIdle true
  · -- a sector that exists is to be written
    exact ⟨h.buffer, hpos, nofun, h.units, fun _ => hlba he⟩
  · exact h.toIdle true
  · exact h.toIdle true

/-- A read of DATA (60_exceptions.md rule R535). -/
theorem Disk.Ok.dataRead (h : d.Ok size) (idle : Byte) : (d.dataRead size idle).2.Ok size := by
  have hi := h.index
  unfold Disk.dataRead
  split
  next hs =>
    dsimp only
    split_ifs with hlast
    · exact h.toIdle d.dkErr
    · exact ⟨h.buffer, by simp only; omega, by simp [hs], h.units, h.transfer⟩
  next => exact h
  next => exact h

/-- The commit of a sector that exists keeps every unit's record (60_exceptions.md rule R536). -/
theorem Disk.Ok.commit (h : d.Ok size) (hw : d.dkState ≠ .idle) : (d.commit size).Ok size where
  buffer := h.buffer
  index := Nat.zero_lt_of_lt h.index
  idleIndex _ := rfl
  units u := by
    obtain ⟨himage, hloaded⟩ := h.units d.dkCurUnit
    change ((d.setUnit _ _).unitAt u).Ok size
    rw [Disk.unitAt_setUnit]
    split_ifs
    · exact ⟨writeSector_length himage (h.transfer hw) h.buffer, hloaded⟩
    · exact h.units u
  transfer hidle := absurd rfl hidle

/-- A write of DATA (60_exceptions.md rule R536). -/
theorem Disk.Ok.dataWrite (h : d.Ok size) (v : Byte) : (d.dataWrite size v).Ok size := by
  have hi := h.index
  unfold Disk.dataWrite
  split
  next hs =>
    have hbuf : Disk.Ok { d with dkBuf := d.dkBuf.set d.dkIdx v } size :=
      ⟨List.length_set.trans h.buffer, h.index, h.idleIndex, h.units, h.transfer⟩
    dsimp only
    split_ifs with hlast
    · exact hbuf.commit (by simp [hs])
    · exact ⟨hbuf.buffer, by simp only; omega, by simp [hs], h.units, h.transfer⟩
  next => exact h
  next => exact h

end

/-- A write of `NV_DATA` recomputes the checksum, or changes nothing (60_exceptions.md rule R555). -/
theorem Nvram.dataWrite_ok {n : Nvram} {k : NvChecksum} (h : n.record.Ok k) (v : Byte) :
    (n.dataWrite k v).record.Ok k := by
  unfold Nvram.dataWrite
  split
  case h_5 => exact h
  all_goals exact .inr (NvRecord.sealed_sealed _ k)

/-! ### The operations of an instruction -/

section
variable {s t : State}

/-- A store: to an address that exists, when it is not dropped. -/
theorem State.DataOk.writeByte (h : s.DataOk) (a : Word) (v : Byte) : (s.writeByte a v).DataOk := by
  obtain ⟨hc, ⟨hwf, hr, hw, hp⟩, hd, hn, hb⟩ := h
  obtain ⟨-, -, -, hpages, -⟩ := Config.bounds hc
  have ht : s.translate a < s.cfg.physSize := State.translate_lt hp (by omega) a
  unfold State.writeByte
  split_ifs
  · exact ⟨hc, ⟨hwf, hr, hw, hp⟩, hd, hn, hb⟩
  · refine ⟨hc, ⟨Memory.wf_insert hwf _ v, fun x hx => ?_, hw, hp⟩, hd, hn, hb⟩
    rcases Memory.mem_insert hx with rfl | hx
    · exact ht
    · exact hr x hx

/-- A page selected is one that exists (20_memory.md rule R67). -/
theorem State.DataOk.bankSelect (h : s.DataOk) (w : Nat) (v : Byte) : (s.bankSelect w v).DataOk := by
  obtain ⟨hc, ⟨hwf, hr, hw, hp⟩, hd, hn, hb⟩ := h
  obtain ⟨-, -, -, hpages, hdecode, -⟩ := Config.bounds hc
  refine ⟨hc, ⟨hwf, hr, List.length_set.trans hw, fun p hm => ?_⟩, hd, hn, hb⟩
  rcases List.mem_or_eq_of_mem_set hm with hm | rfl
  · exact hp p hm
  · exact bankDecode_lt hdecode (by omega) v

theorem State.DataOk.setDisk (h : s.DataOk) {d : Disk} (hd : d.Ok s.cfg.sectorSize) :
    State.DataOk { s with disk := d } := ⟨h.config, h.mem, hd, h.nvram, h.bridge⟩

theorem State.DataOk.setUart (h : s.DataOk) (u : Uart) : State.DataOk { s with uart := u } :=
  ⟨h.config, h.mem, h.disk, h.nvram, h.bridge⟩

theorem State.DataOk.setNvram (h : s.DataOk) {n : Nvram} (hn : n.record.Ok s.cfg.nvChecksum) :
    State.DataOk { s with nvram := n } := ⟨h.config, h.mem, h.disk, hn, h.bridge⟩

/-- A port read: only the two DATA registers have side effects (20_memory.md rule R76). -/
theorem State.DataOk.ioRead (h : s.DataOk) (a : Word) : (s.ioRead a).2.DataOk := by
  unfold State.ioRead
  cases portReg s.cfg (loByte a)
  case uartData => exact h.setUart _
  case dkData => exact h.setDisk (h.disk.dataRead _)
  all_goals exact h

/-- A port write, register by register. -/
theorem State.DataOk.ioWrite (h : s.DataOk) (a : Word) (v : Byte) : (s.ioWrite a v).DataOk := by
  have hd := h.disk
  unfold State.ioWrite
  cases portReg s.cfg (loByte a)
  case uartData => exact h.setUart _
  case dkUnit | dkLba => exact h.setDisk ⟨hd.buffer, hd.index, hd.idleIndex, hd.units, hd.transfer⟩
  case dkCommand => exact h.setDisk (hd.command v)
  case dkData => exact h.setDisk (hd.dataWrite v)
  case nvAddr => exact h.setNvram h.nvram
  case nvData => exact h.setNvram (Nvram.dataWrite_ok h.nvram v)
  case bank w => exact h.bankSelect w v
  case uartStatus | dkSlices | unmapped => exact h

/-- What register updates, stores and port accesses reach keeps the invariant outside the CPU. -/
theorem Reach.dataOk (h : Reach s t) (hs : s.DataOk) : t.DataOk := by
  induction h with
  | refl => exact hs
  | cpu x n _ ih => exact ⟨ih.config, ih.mem, ih.disk, ih.nvram, ih.bridge⟩
  | store a v _ ih => exact ih.writeByte a v
  | portRead a _ ih => exact ih.ioRead a
  | portWrite a v _ ih => exact ih.ioWrite a v

theorem State.physRead_of_mem {u : State} (hc : u.cfg = s.cfg) (hb : u.mem.bytes = s.mem.bytes)
    (he : u.mem.epoch = s.mem.epoch) (k : Nat) : u.physRead k = s.physRead k := by
  simp [State.physRead, State.unlistedByte, hc, hb, he]

/-- Register updates, stores and port accesses keep every byte of ROM (20_memory.md rule R66). -/
theorem Reach.rom_kept (h : Reach s t) {k : Nat} (hk : k < s.cfg.romSize) : t.physRead k = s.physRead k := by
  induction h with
  | refl => rfl
  | cpu x n _ ih => exact ih
  | @store u a v hu ih =>
    have hstored : ¬ (u.isRom a = false ∧ u.translate a = k) := by
      rintro ⟨hrom, rfl⟩
      rw [← hu.kept.1, ← State.isRom_iff, hrom] at hk
      cases hk
    rw [State.physRead_writeByte, if_neg hstored, ih]
  | portRead a _ ih => exact (State.physRead_of_mem (by simp) (by simp) (by simp) k).trans ih
  | portWrite a v _ ih => exact (State.physRead_of_mem (by simp) (by simp) (by simp) k).trans ih

/-! ### The step -/

theorem Reach.trans {u : State} (h : Reach s t) (k : Reach t u) : Reach s u := by
  induction k with
  | refl => exact h
  | cpu x n _ ih => exact ih.cpu x n
  | store a v _ ih => exact ih.store a v
  | portRead a _ ih => exact ih.portRead a
  | portWrite a v _ ih => exact ih.portWrite a v

theorem Reach.beginInstr (h : Reach s t) (k : Nat) : Reach s (t.beginInstr k) := (h.upd _).upd _

theorem Reach.enterInterrupt (h : Reach s t) (iff2 : Bool) : Reach s (t.enterInterrupt iff2) :=
  ((h.upd _).upd _).push16 _

/-- A step is, but for the interrupt inputs, a chain of register updates, stores and port accesses. -/
theorem step_reach (h : step s = .next t) : ∃ p, Reach { s with pins := p } t := by
  obtain ⟨-, ⟨-, rfl⟩ | ⟨-, -, ha⟩ | ⟨-, -, ⟨-, rfl⟩ | ⟨-, ⟨i, -, he⟩ | ⟨c, -, -, rfl⟩⟩⟩⟩ := step_cases h
  · exact ⟨{ s.pins with nmiPending := false }, ((Reach.refl.upd _).enterInterrupt _).setPc _⟩
  · obtain ⟨v, rfl⟩ := acceptInt_cases ha
    exact ⟨s.pins, (Reach.refl.enterInterrupt _).setPc v⟩
  · exact ⟨s.pins, Reach.refl.beginInstr 1⟩
  · exact ⟨s.pins, (Reach.refl.beginInstr _).trans (exec_next_reach he)⟩
  · exact ⟨s.pins, (Reach.refl.beginInstr _).advance _⟩

theorem Cpu.EnablesOk.of_clear {x : Cpu} (h : x.iff1 = true → x.iff2 = true) (hd : x.eiDelay = false) : x.EnablesOk :=
  ⟨h, by simp [hd]⟩

/-- While `ei_delay` is clear, an instruction keeps the interrupt enables in order: `DI`, `EI` and `RETN` set them, every
other leaves them alone. -/
theorem exec_enablesOk {i : Instr} (h : exec i s = .next t) (hs : s.cpu.EnablesOk) (hd : s.cpu.eiDelay = false) :
    t.cpu.EnablesOk := by
  obtain ⟨-, -, -, -, -, h1, h2, -, hdelay⟩ := ownInstructionsOnly i s t h
  by_cases hdi : i = .di
  · subst hdi
    obtain rfl := Host.Outcome.next.inj h
    exact .of_clear nofun hd
  by_cases hei : i = .ei
  · subst hei
    obtain rfl := Host.Outcome.next.inj h
    exact ⟨fun _ => rfl, fun _ => rfl⟩
  by_cases hretn : i = .retn
  · subst hretn
    obtain rfl := Host.Outcome.next.inj h
    rw [State.restoreIff_cpu, State.returnFrom_eq]
    exact .of_clear id hd
  obtain ⟨he, -⟩ := hs
  rw [← h1 hdi hei hretn, ← h2 hdi hei] at he
  exact .of_clear he ((hdelay hei).trans hd)

/-- An interrupt entered with `ei_delay` clear leaves IFF1 and `ei_delay` clear. -/
theorem State.enterInterrupt_enablesOk (s : State) (iff2 : Bool) (v : Word) (hd : s.cpu.eiDelay = false) :
    ((s.enterInterrupt iff2).setPc v).cpu.EnablesOk := by
  obtain ⟨hcpu, -⟩ := (s.enterInterrupt_becomes iff2).setPc v
  rw [hcpu]
  exact .of_clear nofun hd

theorem Cpu.EnablesOk.clearDelay {x : Cpu} (h : x.EnablesOk) (r : Byte) (pc : Word) :
    Cpu.EnablesOk { x with eiDelay := false, r := r, pc := pc } := .of_clear h.enables rfl

/-- Every step keeps the interrupt enables in order. -/
theorem step_enablesOk (h : step s = .next t) (hs : s.cpu.EnablesOk) : t.cpu.EnablesOk := by
  obtain ⟨-, ⟨-, rfl⟩ | ⟨-, hi, ha⟩ | ⟨-, -, ⟨-, rfl⟩ | ⟨-, ⟨i, -, he⟩ | ⟨c, -, -, rfl⟩⟩⟩⟩ := step_cases h
  · exact State.enterInterrupt_enablesOk _ _ _ rfl
  · obtain ⟨v, rfl⟩ := acceptInt_cases ha
    refine State.enterInterrupt_enablesOk _ _ _ ?_
    simp only [State.intAccepted, Bool.and_eq_true, Bool.not_eq_true'] at hi
    exact hi.2
  · exact hs.clearDelay _ _
  · exact exec_enablesOk he (hs.clearDelay _ _) rfl
  · exact hs.clearDelay _ _

end

/-- Settles O53: a step is a chain of operations that each keep the invariant outside the CPU, and it keeps the interrupt
enables in order. -/
theorem stepKeepsTheInvariant : Obligations.StepKeepsTheInvariant := by
  unfold Obligations.StepKeepsTheInvariant
  intro s t hs h
  obtain ⟨⟨hc, hm, hd, hn, hb⟩, he⟩ := s.inv_iff.1 hs
  obtain ⟨p, hr⟩ := step_reach h
  exact t.inv_iff.2 ⟨hr.dataOk ⟨hc, hm, hd, hn, hb⟩, step_enablesOk h he⟩

/-- Settles O56: what a step is made of reaches neither ROM nor what lies outside the CPU, memory and the devices. -/
theorem romIsNeverChanged : Obligations.RomIsNeverChanged := by
  unfold Obligations.RomIsNeverChanged
  intro s t h
  obtain ⟨p, hr⟩ := step_reach h
  obtain ⟨hcfg, hlife, hbridge, -, hepoch, hrom⟩ := hr.kept
  exact ⟨fun k hk => hr.rom_kept hk, hcfg, hlife, hbridge, hrom, hepoch⟩

/-- The configuration of every example of the spec is well formed (00_scope.md rule R5). -/
theorem Config.testInstance_wellFormed : Config.testInstance.wellFormed = true := by decide

/-- Settles O54, part by part. -/
theorem resetMeetsTheInvariant : Obligations.ResetMeetsTheInvariant := by
  have hmem : State.reset.mem.Ok State.reset.cfg := ⟨List.Pairwise.nil, nofun, by decide, by decide⟩
  exact State.reset.inv_iff.2
    ⟨⟨Config.testInstance_wellFormed, hmem, Disk.init_ok (by decide), .inl rfl, rfl⟩, nofun, nofun⟩

end Sys2Proof.Machine
end

section
/-! PROOF. Pairs, the byte F and operand addresses (10_state.md rules R21, R26, R28; 30_encoding.md rules R108, R109),
and what a reset leaves (10_state.md rules R46, R47). -/

namespace Sys2Proof.Machine

/-! ### Views of the registers -/

/-- F as a number: its flags at bits 7 down to 0 (10_state.md rule R26). -/
theorem Flags.toByte_toNat (f : Flags) :
    f.toByte.toNat =
      f.s.toNat * 128 + f.z.toNat * 64 + f.f5.toNat * 32 + f.h.toNat * 16 + f.f3.toNat * 8 + f.pv.toNat * 4 +
        f.n.toNat * 2 + f.c.toNat := by
  obtain ⟨s, z, f5, h, f3, pv, n, c⟩ := f
  revert s z f5 h f3 pv n c
  decide

/-- Settles O41. -/
theorem registerViewsAndAddresses : Obligations.RegisterViewsAndAddresses := by
  unfold Obligations.RegisterViewsAndAddresses
  intro s d
  have hrel : ((s.relTarget d).toNat : Int) = (s.cpu.pc.toNat + 2 + d.toInt) % 65536 := by
    have hpc : (s.cpu.pc + 2#16).toNat = (s.cpu.pc.toNat + 2) % 65536 := BitVec.toNat_add _ _
    rw [State.relTarget, add_sext16_toNat, hpc]
    omega
  refine ⟨mkWord_toNat _ _, mkWord_toNat _ _, mkWord_toNat _ _, mkWord_toNat _ _, Flags.toByte_toNat _,
    add_sext16_toNat _ _, add_sext16_toNat _ _, hrel, ?_⟩
  simp [Flags.cond]

/-! ### Reset -/

/-- Keeping the cells at the addresses that meet `p` keeps what is listed there and nothing else. -/
theorem Memory.lookup_filter (p : Nat → Bool) (m : List Host.Cell) (k : Nat) :
    Memory.lookup (m.filter (fun x => p x.1)) k = if p k then Memory.lookup m k else none := by
  induction m with
  | nil => simp [Memory.lookup]
  | cons x m ih =>
    obtain ⟨a, v⟩ := x
    by_cases ha : a = k
    · subst ha
      cases hp : p a <;> simp [Memory.lookup, hp, ih]
    · cases hp : p a <;> simp [Memory.lookup, hp, ih, ha]

/-- A reset keeps every byte of ROM (10_state.md rule R47). -/
theorem State.physRead_hostReset_rom {s : State} {k : Nat} (hk : k < s.cfg.romSize) :
    s.hostReset.physRead k = s.physRead k := by
  simp [State.physRead, State.unlistedByte, State.hostReset, MemUnit.reset,
    Memory.lookup_filter (fun a => decide (a < s.cfg.romSize)), hk]

/-- A reset makes every byte of RAM a free value of the next epoch (20_memory.md rule R69). -/
theorem State.physRead_hostReset_ram {s : State} {k : Nat} (hk : s.cfg.romSize ≤ k) :
    s.hostReset.physRead k = Config.ramDraw (s.mem.epoch + 1) k := by
  simp [State.physRead, State.unlistedByte, State.hostReset, MemUnit.reset,
    Memory.lookup_filter (fun a => decide (a < s.cfg.romSize)), not_lt.2 hk]

/-- In a running machine `reset()` is the common reset, with the bridge emptied (70_reset_and_hazards.md rule R608). -/
theorem State.hostResetCall_of_running {s : State} (h : s.life = .running) :
    s.hostResetCall = { s.hostReset with bridge := Bridge.empty } := by
  simp [State.hostResetCall, h]

/-- Settles O55. -/
theorem resetValues : Obligations.ResetValues := by
  unfold Obligations.ResetValues
  refine ⟨by decide, fun s h => ?_⟩
  have hbytes : ∀ x ∈ s.hostReset.mem.bytes, x.1 < s.cfg.romSize := fun x hx => by
    simpa using (List.mem_filter.1 hx).2
  rw [State.hostResetCall_of_running h]
  exact ⟨rfl, rfl, rfl, rfl, rfl, rfl, rfl, rfl, rfl, rfl, rfl, hbytes, fun k hk => State.physRead_hostReset_rom hk,
    rfl, fun k hk => State.physRead_hostReset_ram hk, ⟨_, _, _, rfl⟩, rfl, rfl, h, rfl, rfl⟩

end Sys2Proof.Machine
end

section
/-! PROOF. Which instructions reach a device or the bank map (20_memory.md rules R60, R67), and access to memory through
the map (20_memory.md rules R61, R62, R65, R66). -/

namespace Sys2Proof.Machine

/-! ### The devices -/

/-- The part of the machine behind the ports: the devices, the interrupt inputs and the bank map. -/
def State.devices (s : State) : Uart × Disk × Nvram × Pins × List Nat :=
  (s.uart, s.disk, s.nvram, s.pins, s.mem.map)

section
variable (s : State)

/-- Every update of the CPU alone, flags and their draw included. -/
theorem State.updateCpu_devices (x : Cpu) (n : Nat) : State.devices { s with cpu := x, draws := n } = s.devices := rfl

theorem State.setReg_devices (r : Reg8) (v : Byte) : (s.setReg r v).devices = s.devices := by cases r <;> rfl

theorem State.setRegFlags_devices (r : Reg8) (p : Byte × Fl) : (s.setRegFlags r p).devices = s.devices :=
  s.setReg_devices r p.1

theorem State.setPair_devices (p : Pair) (v : Word) : (s.setPair p v).devices = s.devices := by cases p <;> rfl

theorem State.setPairQ_devices (p : PairQ) (v : Word) : (s.setPairQ p v).devices = s.devices := by cases p <;> rfl

theorem State.writeByte_devices (a : Word) (v : Byte) : (s.writeByte a v).devices = s.devices := by
  simp [State.devices]

theorem State.modify_devices (a : Word) (p : Byte × Fl) : (s.modify a p).devices = s.devices :=
  s.writeByte_devices a p.1

theorem State.blockCompare_devices (step : Word) : (s.blockCompare step).devices = s.devices := rfl

theorem State.pop16_devices : s.pop16.2.devices = s.devices := by
  rw [State.pop16_state]; rfl

theorem State.returnFrom_devices : s.returnFrom.devices = s.devices := by
  rw [State.returnFrom_eq]; rfl

theorem State.blockLoad_devices (step : Word) : (s.blockLoad step).devices = s.devices := by
  simp [State.devices, State.blockLoad]

end

/-- Whatever updates the CPU and makes stores keeps the devices. -/
theorem Becomes.devices_eq {s t : State} {x : Cpu} {l : List (Word × Byte)} (h : Becomes s t x l) :
    t.devices = s.devices := by
  obtain ⟨-, ⟨hmap, -⟩, hpins, huart, hdisk, hnvram, -⟩ := h
  simp only [State.devices, hmap, hpins, huart, hdisk, hnvram]

/-- An outcome is a next state in which the devices, the interrupt inputs and the bank map are as in `s`. -/
def KeepsDevices (s : State) (o : Result) : Prop := ∃ t, o = .next t ∧ t.devices = s.devices

section
variable {s t : State}

theorem KeepsDevices.next (h : t.devices = s.devices) : KeepsDevices s (.next t) := ⟨t, rfl, h⟩

theorem KeepsDevices.done (h : t.devices = s.devices) (n : Nat) : KeepsDevices s (t.done n) := .next h

theorem KeepsDevices.repeatUnless (h : t.devices = s.devices) (b : Bool) : KeepsDevices s (t.repeatUnless b) := by
  cases b
  · exact .next h
  · exact .done h 2

theorem KeepsDevices.jumpRelIf (h : t.devices = s.devices) (b : Bool) (e : Byte) :
    KeepsDevices s (t.jumpRelIf b e) := by
  cases b
  · exact .done h 2
  · exact .next h

theorem KeepsDevices.ite {b : Bool} {o p : Result} (h : KeepsDevices s o) (k : KeepsDevices s p) :
    KeepsDevices s (if b = true then o else p) := by
  cases b
  · exact k
  · exact h

end

/-- An instruction outside the input and output group keeps the devices: one line per shape of meaning. -/
theorem exec_keepsDevices {i : Instr} (hi : ¬ IsInputOutput i) (s : State) : KeepsDevices s (exec i s) := by
  cases i
  case inAN | inRC | ini | inir | ind | indr | outNA | outCR | outi | otir | outd | otdr =>
    exact absurd (by simp [IsInputOutput]) hi
  -- the CPU alone, no register chosen by an operand
  case nop | halt | di | ei | im0 | im1 | im2 | ldAI | ldARefresh | ldIA | ldRefreshA | ldABc | ldADe | ldANn
    | ldIxNn | ldIxMem | ldIyNn | ldIyMem | ldHlMem | ldSpHl | ldSpIx | ldSpIy | exDeHl | exAfAf | exx
    | incIx | decIx | incIy | decIy | addHlSs | adcHlSs | sbcHlSs | addIxPp | addIyRr
    | addAR | addAN | addAHl | addAIxd | addAIyd | adcAR | adcAN | adcAHl | adcAIxd | adcAIyd
    | subR | subN | subHl | subIxd | subIyd | sbcAR | sbcAN | sbcAHl | sbcAIxd | sbcAIyd
    | andR | andN | andHl | andIxd | andIyd | xorR | xorN | xorHl | xorIxd | xorIyd
    | orR | orN | orHl | orIxd | orIyd | cpR | cpN | cpHl | cpIxd | cpIyd
    | daa | cpl | neg | ccf | scf | rlca | rla | rrca | rra | bitBR | bitBHl | bitBIxd | bitBIyd =>
    exact .done (s.updateCpu_devices _ _) _
  case cpi | cpd => exact .done (s.blockCompare_devices _) _
  case cpir | cpdr => exact .repeatUnless (s.blockCompare_devices _) _
  -- a register or a pair that an operand chooses
  case ldRR | ldRN | ldRHl | ldRIxd | ldRIyd | setBR | resBR => exact .done (s.setReg_devices _ _) _
  case incR | decR | rlcR | rrcR | rlR | rrR | slaR | sraR | srlR => exact .done (s.setRegFlags_devices _ _) _
  case ldDdNn | ldDdMem | incSs | decSs => exact .done (s.setPair_devices _ _) _
  case popQq => exact .done ((s.pop16.2.setPairQ_devices _ _).trans s.pop16_devices) _
  case popIx | popIy => exact .done ((s.pop16.2.updateCpu_devices _ _).trans s.pop16_devices) _
  -- one store
  case ldHlR | ldIxdR | ldIydR | ldHlN | ldIxdN | ldIydN | ldBcA | ldDeA | ldNnA
    | setBHl | setBIxd | setBIyd | resBHl | resBIxd | resBIyd =>
    exact .done (s.writeByte_devices _ _) _
  case incHl | incIxd | incIyd | decHl | decIxd | decIyd | rlcHl | rlcIxd | rlcIyd | rrcHl | rrcIxd | rrcIyd
    | rlHl | rlIxd | rlIyd | rrHl | rrIxd | rrIyd | slaHl | slaIxd | slaIyd | sraHl | sraIxd | sraIyd
    | srlHl | srlIxd | srlIyd =>
    exact .done (s.modify_devices _ _) _
  case rld | rrd => exact .done ((s.writeByte_becomes _ _).then_cpu _ _).devices_eq _
  case ldi | ldd => exact .done (s.blockLoad_devices _) _
  case ldir | lddr => exact .repeatUnless (s.blockLoad_devices _) _
  -- two stores
  case ldMemHl | ldMemDd | ldMemIx | ldMemIy => exact .done (s.writeWord_becomes _ _).devices_eq _
  case pushQq | pushIx | pushIy => exact .done (s.push16_becomes _).devices_eq _
  case exSpHl | exSpIx | exSpIy => exact .done ((s.storeTop_becomes _).then_cpu _ _).devices_eq _
  -- jumps, calls and returns
  case jpNn | jrE | jpHl | jpIx | jpIy => exact .next (s.updateCpu_devices _ _)
  case jpCcNn => exact .ite (.next (s.updateCpu_devices _ _)) (.done rfl _)
  case jrCE | jrNcE | jrZE | jrNzE => exact .jumpRelIf rfl _ _
  case djnzE => exact .jumpRelIf (s.setReg_devices .b _) _ _
  case callNn | rstP => exact .next (s.call_becomes _ _).devices_eq
  case ret | reti => exact .next s.returnFrom_devices
  case retn => exact .next ((s.returnFrom.updateCpu_devices _ _).trans s.returnFrom_devices)
  case retCc => exact .ite (.next s.returnFrom_devices) (.done rfl _)
  case callCcNn => exact .ite (.next (s.call_becomes _ _).devices_eq) (.done rfl _)

/-- Settles O58: an instruction outside the group only updates the CPU and stores bytes, and neither reaches what
lies behind the ports. -/
theorem devicesOnlyByInputOutput : Obligations.DevicesOnlyByInputOutput := by
  unfold Obligations.DevicesOnlyByInputOutput
  intro i s t hi h
  obtain ⟨u, hu, hd⟩ := exec_keepsDevices hi s
  obtain rfl : t = u := Host.Outcome.next.inj (h.symm.trans hu)
  simpa only [State.devices, Prod.mk.injEq] using hd

/-! ### Memory -/

section
variable {s : State} {a : Word} {p : Nat}

/-- `map[w]` of a window that the map has (20_memory.md rule R61). -/
theorem State.pageOf_of_mapped (h : s.mem.map[a.toNat / 2 ^ s.cfg.pageBits]? = some p) : s.pageOf a = p := by
  rw [State.pageOf, List.getD_eq_getElem?_getD, Config.pageSize, h]
  rfl

/-- The physical address in the page mapped (20_memory.md rules R61, R65). -/
theorem State.translate_of_mapped (h : s.mem.map[a.toNat / 2 ^ s.cfg.pageBits]? = some p) :
    s.translate a = p * 2 ^ s.cfg.pageBits + a.toNat % 2 ^ s.cfg.pageBits := by
  rw [State.translate, State.pageOf_of_mapped h, Config.pageSize]

/-- The logical address is ROM when the page mapped is (10_state.md rule R37). -/
theorem State.isRom_of_mapped (h : s.mem.map[a.toNat / 2 ^ s.cfg.pageBits]? = some p) :
    s.isRom a = decide (p < s.cfg.nRomPages) := by
  rw [State.isRom, State.pageOf_of_mapped h]

/-- A byte stored in RAM is read back through every window that shows its page (20_memory.md rule R65). -/
theorem State.readByte_writeByte_alias {b : Word} (v : Byte) (hram : s.isRom a = false)
    (hb : s.translate b = s.translate a) : (s.writeByte a v).readByte b = v := by
  rw [State.readByte_eq, State.writeByte_translate, State.physRead_writeByte, if_pos ⟨hram, hb.symm⟩]

end

/-- Settles O42: each clause is the law of its operation, at the physical address of the page mapped. -/
theorem memoryAccess : Obligations.MemoryAccess := by
  unfold Obligations.MemoryAccess
  intro s a b v w p hp
  rw [← State.translate_of_mapped hp]
  have hrom := State.isRom_of_mapped hp
  refine ⟨s.readByte_eq a, fun hram => ?ram, fun h => ?rom, mkWord_toNat _ _, s.writeWord_becomes a w⟩
  case ram =>
    have hram : s.isRom a = false := by rw [hrom, decide_eq_false_iff_not]; omega
    refine ⟨fun k => ?_, State.readByte_writeByte_alias v hram⟩
    simp only [State.physRead_writeByte, hram, true_and, eq_comm]
  case rom => exact s.writeByte_of_isRom a v (by rw [hrom, decide_eq_true h])

end Sys2Proof.Machine
end

section
/-! PROOF. The encoder and the decoder (30_encoding.md rules R100 to R117). An opcode byte is its three fields x, y, z
(rule R103): the encoder writes them, the decoder finds its tables by them. So an encoding decodes to its instruction
once the fields of a bit pattern are known, and the converse follows the tables of each page, field value by field
value. -/

namespace Sys2Proof

/-! ### The fields of an opcode byte -/

section
variable (x : BitVec 2) (y z : BitVec 3) (p : BitVec 5)

@[simp] theorem opX_fields : opX (x ++ y ++ z) = x.toNat := by revert x y z; decide +kernel

@[simp] theorem opY_fields : opY (x ++ y ++ z) = y.toNat := by revert x y z; decide +kernel

@[simp] theorem opZ_fields : opZ (x ++ y ++ z) = z.toNat := by revert x y z; decide +kernel

/-- In a pattern with x and y given, `p` is both of them. -/
@[simp] theorem opX_selector : opX (p ++ z) = p.toNat / 8 := by revert p z; decide +kernel

@[simp] theorem opY_selector : opY (p ++ z) = p.toNat % 8 := by revert p z; decide +kernel

@[simp] theorem opZ_selector : opZ (p ++ z) = z.toNat := by revert p z; decide +kernel

end

/-- Every byte is the pattern of its fields (30_encoding.md rule R103). -/
theorem byte_cases {motive : Byte → Prop} (fields : ∀ (x : BitVec 2) (y z : BitVec 3), motive (x ++ y ++ z))
    (op : Byte) : motive op := by
  have h : op = op.extractLsb' 6 2 ++ op.extractLsb' 3 3 ++ op.extractLsb' 0 3 := by revert op; decide +kernel
  rw [h]
  exact fields _ _ _

/-- The same for a byte whose field x is known. -/
theorem exists_fields_of_opX {op : Byte} (x : BitVec 2) (h : opX op = x.toNat) :
    ∃ y z : BitVec 3, op = x ++ y ++ z := by
  cases op using byte_cases with
  | fields x' y z =>
    rw [opX_fields] at h
    exact ⟨y, z, by rw [BitVec.eq_of_toNat_eq h]⟩

/-- The four values of field x. -/
theorem bits2_cases {motive : BitVec 2 → Prop} (b0 : motive 0#2) (b1 : motive 1#2) (b2 : motive 2#2) (b3 : motive 3#2)
    (x : BitVec 2) : motive x := by
  have h : x = 0#2 ∨ x = 1#2 ∨ x = 2#2 ∨ x = 3#2 := by revert x; decide
  obtain rfl | rfl | rfl | rfl := h <;> assumption

/-- The eight values of a field y or z. -/
theorem bits3_cases {motive : BitVec 3 → Prop} (b0 : motive 0#3) (b1 : motive 1#3) (b2 : motive 2#3) (b3 : motive 3#3)
    (b4 : motive 4#3) (b5 : motive 5#3) (b6 : motive 6#3) (b7 : motive 7#3) (y : BitVec 3) : motive y := by
  have h : y = 0#3 ∨ y = 1#3 ∨ y = 2#3 ∨ y = 3#3 ∨ y = 4#3 ∨ y = 5#3 ∨ y = 6#3 ∨ y = 7#3 := by revert y; decide
  obtain rfl | rfl | rfl | rfl | rfl | rfl | rfl | rfl := h <;> assumption

/-- A field that selects an 8-bit operand is the code of a register, or 6 for memory (30_encoding.md rule R104). -/
theorem operand_cases {motive : BitVec 3 → Prop} (reg : ∀ r : Reg8, motive r.code) (mem : motive 6#3) (z : BitVec 3) :
    motive z := by
  cases z using bits3_cases with
  | b0 => exact reg .b
  | b1 => exact reg .c
  | b2 => exact reg .d
  | b3 => exact reg .e
  | b4 => exact reg .h
  | b5 => exact reg .l
  | b6 => exact mem
  | b7 => exact reg .a

/-! ### Operand codes (30_encoding.md rules R104, R106) -/

@[simp] theorem Reg8.ofCode_code (r : Reg8) : Reg8.ofCode r.code.toNat = some r := by cases r <;> rfl

@[simp] theorem Reg8.ofCode_six : Reg8.ofCode 6 = none := rfl

@[simp] theorem Cond.ofCode_code (cc : Cond) : Cond.ofCode cc.code.toNat = cc := by cases cc <;> rfl

@[simp] theorem Cond.code_ofCode (y : BitVec 3) : (Cond.ofCode y.toNat).code = y := by
  cases y using bits3_cases <;> rfl

/-! ### The page that a first byte selects (30_encoding.md rule R101) -/

theorem decode_cb (b1 b2 b3 : Byte) : decode 0xCB#8 b1 b2 b3 = decodeCb b1 := rfl

theorem decode_ed (b1 b2 b3 : Byte) : decode 0xED#8 b1 b2 b3 = decodeEd b1 b2 b3 := rfl

theorem decode_dd (b1 b2 b3 : Byte) : decode 0xDD#8 b1 b2 b3 = decodeDd b1 b2 b3 := rfl

theorem decode_fd (b1 b2 b3 : Byte) : decode 0xFD#8 b1 b2 b3 = decodeFd b1 b2 b3 := rfl

theorem decodeDd_cb (d op : Byte) : decodeDd 0xCB#8 d op = decodeDdCb d op := rfl

theorem decodeFd_cb (d op : Byte) : decodeFd 0xCB#8 d op = decodeFdCb d op := rfl

/-! ### Decoding an encoding -/

section
variable (b0 b1 b2 b3 : Byte) (rest : List Byte)

theorem decodeBytes_one :
    decodeBytes ([b0] ++ rest) = decode b0 (rest.getD 0 0#8) (rest.getD 1 0#8) (rest.getD 2 0#8) := rfl

theorem decodeBytes_two : decodeBytes ([b0, b1] ++ rest) = decode b0 b1 (rest.getD 0 0#8) (rest.getD 1 0#8) := rfl

theorem decodeBytes_three : decodeBytes ([b0, b1, b2] ++ rest) = decode b0 b1 b2 (rest.getD 0 0#8) := rfl

theorem decodeBytes_four : decodeBytes ([b0, b1, b2, b3] ++ rest) = decode b0 b1 b2 b3 := rfl

end

/-- Settles O3: the encoding's bytes and those after it become the arguments of `decode`; then each kind of operand is
read back from its field or its bytes, and a byte that no row looks at stays a variable. -/
theorem decodeOfEncode : Obligations.DecodeOfEncode := by
  unfold Obligations.DecodeOfEncode
  intro i rest
  cases i <;> simp only [encode, decodeBytes_one, decodeBytes_two, decodeBytes_three, decodeBytes_four]
  -- a word, low byte first, perhaps with a pair
  case ldANn nn | ldNnA nn | ldHlMem nn | ldMemHl nn | ldIxNn nn | ldIyNn nn | ldIxMem nn | ldIyMem nn | ldMemIx nn |
      ldMemIy nn | jpNn nn | callNn nn =>
    conv_rhs => rw [← mkWord_hi_lo nn]
    rfl
  case ldDdNn p nn | ldDdMem p nn | ldMemDd nn p =>
    conv_rhs => rw [← mkWord_hi_lo nn]
    cases p <;> rfl
  -- registers
  case ldRR | ldRN | ldRHl | ldHlR | incR | decR => simp [decode, decodeMain0, decodeMain1]
  case addAR | adcAR | subR | sbcAR | andR | xorR | orR | cpR => simp [decode, decodeMain2, decodeAluR]
  case ldRIxd | ldIxdR => simp [decode_dd, decodeDd]
  case ldRIyd | ldIydR => simp [decode_fd, decodeFd]
  case inRC | outCR => simp [decode_ed, decodeEd, Decoded.ofOption]
  case rlcR | rrcR | rlR | rrR | slaR | sraR | srlR => simp [decode_cb, decodeCb, decodeRotR, Decoded.ofOption]
  -- bit numbers
  case bitBR | setBR | resBR | bitBHl | setBHl | resBHl => simp [decode_cb, decodeCb]
  case bitBIxd | setBIxd | resBIxd => simp [decode_dd, decodeDd_cb, decodeDdCb]
  case bitBIyd | setBIyd | resBIyd => simp [decode_fd, decodeFd_cb, decodeFdCb]
  -- conditions, restart numbers, pairs
  case jpCcNn | callCcNn | retCc | rstP => simp [decode, decodeMain3]
  case addHlSs p | adcHlSs p | sbcHlSs p | incSs p | decSs p | pushQq p | popQq p | addIxPp p | addIyRr p =>
    cases p <;> rfl
  -- a fixed opcode, perhaps with byte operands
  all_goals rfl

/-! ### Encoding what was decoded -/

/-- What the decoder answers on `bytes` is an instruction whose encoding they begin with, or no instruction. -/
def Decoded.EncodedBy (o : Decoded) (bytes : List Byte) : Prop := ∀ i, o = .instr i → encode i <+: bytes

@[simp] theorem Decoded.encodedBy_instr (i : Instr) (bytes : List Byte) :
    (Decoded.instr i).EncodedBy bytes ↔ encode i <+: bytes :=
  ⟨fun h => h i rfl, fun h _ hj => Decoded.instr.inj hj ▸ h⟩

@[simp] theorem Decoded.encodedBy_undef (c : UndefClass) (bytes : List Byte) : (Decoded.undef c).EncodedBy bytes :=
  nofun

/-! The accumulator operations (30_encoding.md rule R112): the selector is field y of the opcode. -/

section
variable (y : BitVec 3) (r : Reg8) (n d : Byte)

@[simp] theorem encode_decodeAluR : encode (decodeAluR y.toNat r) = [0b10#2 ++ y ++ r.code] := by
  cases y using bits3_cases <;> rfl

@[simp] theorem encode_decodeAluN : encode (decodeAluN y.toNat n) = [0b11#2 ++ y ++ 0b110#3, n] := by
  cases y using bits3_cases <;> rfl

@[simp] theorem encode_decodeAluHl : encode (decodeAluHl y.toNat) = [0b10#2 ++ y ++ 0b110#3] := by
  cases y using bits3_cases <;> rfl

@[simp] theorem encode_decodeAluIxd : encode (decodeAluIxd y.toNat d) = [0xDD#8, 0b10#2 ++ y ++ 0b110#3, d] := by
  cases y using bits3_cases <;> rfl

@[simp] theorem encode_decodeAluIyd : encode (decodeAluIyd y.toNat d) = [0xFD#8, 0b10#2 ++ y ++ 0b110#3, d] := by
  cases y using bits3_cases <;> rfl

end

/-- Page `CB` (30_encoding.md rule R114). -/
theorem decodeCb_encodedBy (op b2 b3 : Byte) : (decodeCb op).EncodedBy [0xCB#8, op, b2, b3] := by
  cases op using byte_cases with | fields x y z
  simp only [decodeCb, opX_fields, opY_fields, opZ_fields]
  cases x using bits2_cases with
  | b0 =>
    cases z using operand_cases <;> cases y using bits3_cases <;>
      simp [decodeRotR, decodeRotHl, Decoded.ofOption, encode]
  | b1 | b2 | b3 => cases z using operand_cases <;> simp [encode]

/-- Pages `DDCB` and `FDCB` (30_encoding.md rule R116, second table). -/
theorem decodeIndexCb_encodedBy (d op : Byte) :
    (decodeDdCb d op).EncodedBy [0xDD#8, 0xCB#8, d, op] ∧ (decodeFdCb d op).EncodedBy [0xFD#8, 0xCB#8, d, op] := by
  cases op using byte_cases with | fields x y z
  simp only [decodeDdCb, decodeFdCb, opX_fields, opY_fields, opZ_fields]
  cases z using operand_cases with
  | reg r => simp
  | mem =>
    cases x using bits2_cases with
    | b0 => cases y using bits3_cases <;> simp [decodeRotIxd, decodeRotIyd, Decoded.ofOption, encode]
    | b1 | b2 | b3 => simp [encode]

/-- Pages `DD` and `FD` (30_encoding.md rule R116, first table), by the value of x; where the table lists whole bytes,
the byte found is the opcode. -/
theorem decodeIndex_encodedBy (b1 b2 b3 : Byte) :
    (decodeDd b1 b2 b3).EncodedBy [0xDD#8, b1, b2, b3] ∧ (decodeFd b1 b2 b3).EncodedBy [0xFD#8, b1, b2, b3] := by
  unfold decodeDd decodeFd
  constructor
  all_goals
    split
    next => split <;> simp [encode, PairX.code, ← BitVec.toNat_inj, *]
    next hx =>
      obtain ⟨y, z, rfl⟩ := exists_fields_of_opX 1#2 hx
      simp only [opY_fields, opZ_fields]
      cases y using operand_cases <;> cases z using operand_cases <;> simp [encode]
    next hx =>
      obtain ⟨y, z, rfl⟩ := exists_fields_of_opX 2#2 hx
      simp only [opY_fields, opZ_fields]
      cases z using operand_cases <;> simp
    next =>
      split
      next hcb =>
        obtain rfl : b1 = 0xCB#8 := BitVec.eq_of_toNat_eq hcb
        simp only [decodeIndexCb_encodedBy]
      all_goals simp [encode, ← BitVec.toNat_inj, *]

/-- Page `ED` (30_encoding.md rule R115). -/
theorem decodeEd_encodedBy (b1 b2 b3 : Byte) : (decodeEd b1 b2 b3).EncodedBy [0xED#8, b1, b2, b3] := by
  unfold decodeEd
  split
  next hx =>
    obtain ⟨y, z, rfl⟩ := exists_fields_of_opX 1#2 hx
    simp only [opY_fields, opZ_fields]
    cases z using bits3_cases with
    | b0 | b1 => cases y using operand_cases <;> simp [Decoded.ofOption, encode]
    | b2 | b3 | b4 | b5 | b6 | b7 => cases y using bits3_cases <;> simp [encode, Pair.ofCode, Pair.code]
  next => split <;> simp [encode, ← BitVec.toNat_inj, *]
  next => simp

/-! Page `main` (30_encoding.md rule R113), block by block. -/

section
variable (y z : BitVec 3) (b1 b2 b3 : Byte)

theorem encode_decodeMain0 :
    encode (decodeMain0 (0b00#2 ++ y ++ z) b1 b2) <+: [0b00#2 ++ y ++ z, b1, b2, b3] := by
  simp only [decodeMain0, opY_fields, opZ_fields]
  cases z using bits3_cases with
  | b4 | b5 | b6 => cases y using operand_cases <;> simp [encode]
  | b0 | b1 | b2 | b3 | b7 => cases y using bits3_cases <;> simp [encode, Pair.ofCode, Pair.code]

theorem encode_decodeMain1 : encode (decodeMain1 (0b01#2 ++ y ++ z)) = [0b01#2 ++ y ++ z] := by
  simp only [decodeMain1, opY_fields, opZ_fields]
  cases y using operand_cases <;> cases z using operand_cases <;> simp [encode]

theorem encode_decodeMain2 : encode (decodeMain2 (0b10#2 ++ y ++ z)) = [0b10#2 ++ y ++ z] := by
  simp only [decodeMain2, opY_fields, opZ_fields]
  cases z using operand_cases <;> simp

theorem decodeMain3_encodedBy :
    (decodeMain3 (0b11#2 ++ y ++ z) b1 b2 b3).EncodedBy [0b11#2 ++ y ++ z, b1, b2, b3] := by
  simp only [decodeMain3, opY_fields, opZ_fields]
  cases z using bits3_cases with
  | b0 | b2 | b4 | b7 => simp [encode]
  | b6 => simp
  | b1 => cases y using bits3_cases <;> simp [encode, PairQ.ofCode, PairQ.code]
  | b3 => cases y using bits3_cases <;> simp [encode, decodeCb_encodedBy]
  | b5 =>
    cases y using bits3_cases <;>
      simp [encode, PairQ.ofCode, PairQ.code, decodeIndex_encodedBy, decodeEd_encodedBy]

end

/-- What is decoded has the bytes that were read for its encoding, whichever block of page `main` they begin in. -/
theorem decode_encodedBy (b0 b1 b2 b3 : Byte) : (decode b0 b1 b2 b3).EncodedBy [b0, b1, b2, b3] := by
  cases b0 using byte_cases with | fields x y z
  simp only [decode, opX_fields]
  cases x using bits2_cases with
  | b0 => simpa using encode_decodeMain0 y z b1 b2 b3
  | b1 => simp [encode_decodeMain1]
  | b2 => simp [encode_decodeMain2]
  | b3 => exact decodeMain3_encodedBy y z b1 b2 b3

/-- The encoding is as long as the length column says (30_encoding.md rule R100). -/
theorem encode_length (i : Instr) : (encode i).length = i.length := by cases i <;> rfl

/-- Settles O4: the bytes begin with the encoding, and its length says how many of them it is. -/
theorem encodeOfDecode : Obligations.EncodeOfDecode := by
  unfold Obligations.EncodeOfDecode
  intro b0 b1 b2 b3 i h
  rw [← encode_length]
  exact List.prefix_iff_eq_take.mp (decode_encodedBy b0 b1 b2 b3 i h)

/-! ### The words of the spec -/

/-- Settles O2: twelve fixed words, and counts over the 256 values of one byte, by evaluation. -/
theorem decodedWords : Obligations.DecodedWords := by
  unfold Obligations.DecodedWords
  decide +kernel

end Sys2Proof

namespace Sys2Proof.Machine

/-! ### Undefined encodings (30_encoding.md rules R118, R119) -/

section
variable {s : State} {c : UndefClass}

theorem step_of_undef (hn : RunsNext s) (hd : s.decodeAtPc = .undef c) : step s = s.runUndefined c := by
  obtain ⟨hcfg, hnmi, hint, hhalt⟩ := hn
  simp [step, hcfg, hnmi, hint, hhalt, hd]

theorem stepTStates_of_undef (hn : RunsNext s) (hd : s.decodeAtPc = .undef c) :
    stepTStates s = UndefClass.tStates c := by
  obtain ⟨-, hnmi, hint, hhalt⟩ := hn
  simp [stepTStates, hnmi, hint, hhalt, hd]

theorem State.runUndefined_of_nop (hp : s.cfg.undefPolicy = .nop) :
    s.runUndefined c = .next ((s.beginInstr c.rIncrement).advance c.length) := by
  rw [State.runUndefined, hp]
  rfl

theorem State.runUndefined_of_fault (hp : s.cfg.undefPolicy = .fault) :
    s.runUndefined c = .fault (.undefinedEncoding s.cpu.pc ((List.range c.bytesRead).map s.fetchByte)) := by
  rw [State.runUndefined, hp]

end

/-- Settles O5: under `nop` the step is the beginning of an instruction and an advance of pc; each class then has its
numbers. -/
theorem undefinedEncodings : Obligations.UndefinedEncodings := by
  unfold Obligations.UndefinedEncodings
  intro s c hn hd
  have hd : s.decodeAtPc = .undef c := hd
  rw [step_of_undef hn hd, stepTStates_of_undef hn hd]
  refine ⟨fun hp => ⟨_, State.runUndefined_of_nop hp, ?becomes, ?refresh, ?tStates⟩,
    fun hp => ⟨_, State.runUndefined_of_fault hp⟩⟩
  case becomes => cases c <;> exact (s.beginInstr_becomes _).advance _
  case refresh =>
    have hr := refreshed_toNat s.cpu.r c.rIncrement
    cases c <;> exact hr
  case tStates => cases c <;> rfl

end Sys2Proof.Machine
end

section
/-! PROOF. The 8-bit loads (40_load8.md). Each rule is one update of the state and an advance of pc; its encoding, length,
R increment and T-states are those of its table row. The lemmas before the three theorems hold of any instruction with
such a meaning. -/

namespace Sys2Proof.Machine

section
variable {s t : State} {x : Cpu} {l : List (Word × Byte)} {i : Instr}

/-- A row of the opcode table: the decoder reads the encoding back, and the encoding has the length of the table. -/
theorem row_encode (i : Instr) (s : State) : Row i s (encode i) i.rIncrement (tStates i s) :=
  ⟨by simpa using decodeOfEncode i [], (encode_length i).symm, rfl, rfl⟩

theorem Becomes.refl (s : State) : Becomes s s s.cpu [] := ⟨rfl, MemoryAfter.refl s, SameRest.refl s⟩

theorem Becomes.setReg (h : Becomes s t x l) (r : Reg8) (v : Byte) : Becomes s (t.setReg r v) (x.put r v) l :=
  h.update (by rw [State.setReg_cpu, h.1]) (t.setReg_mem r v) (by simp [SameRest])

/-- An instruction that ends with `done` after stores and changes of the CPU other than pc. -/
theorem Becomes.of_exec_done (h : Becomes s t x l) {n : Nat} (he : exec i s = t.done n) (hpc : x.pc = s.cpu.pc) :
    ∃ u, exec i s = .next u ∧ Becomes s u { x with pc := s.cpu.pc + BitVec.ofNat 16 n } l :=
  ⟨t.advance n, he, hpc ▸ h.advance n⟩

theorem loadsReg_of_exec {r : Reg8} {v : Byte} {n : Nat} (he : exec i s = (s.setReg r v).done n) :
    LoadsReg i s r v n :=
  ((Becomes.refl s).setReg r v).of_exec_done he rfl

theorem stores_of_exec {a : Word} {v : Byte} {n : Nat} (he : exec i s = (s.writeByte a v).done n) :
    Stores i s [(a, v)] n :=
  (s.writeByte_becomes a v).of_exec_done he rfl

theorem setsCpu_of_exec {n : Nat} (he : exec i s = State.done { s with cpu := x } n) (hpc : x.pc = s.cpu.pc) :
    SetsCpu i s x n :=
  (Becomes.cpu s x s.draws).of_exec_done he hpc

theorem loadIrFlags_are (v : Byte) (iff2 c : Bool) :
    (loadIrFlags v iff2 c).Are (128 ≤ v.toNat) (v = 0#8) False (iff2 = true) False (c = true) := by
  refine ⟨?_, ?_, ?_, ?_, ?_, ?_⟩ <;>
    simp only [loadIrFlags, byte_msb, beq_iff_eq, decide_eq_true_eq, Bool.false_eq_true]

/-- A load of A from I or R: the byte to A, and its flags (40_load8.md rules R217, R218). -/
theorem loadsIr_of_exec {v : Byte} {n : Nat}
    (he : exec i s = ((s.setReg .a v).setFlags (loadIrFlags v s.cpu.iff2 s.cpu.f.c)).done n) :
    ∃ u, exec i s = .next u ∧ BecomesF s u { s.cpu with a := v, pc := s.cpu.pc + BitVec.ofNat 16 n } [] ∧
      u.cpu.f.Are (128 ≤ v.toNat) (v = 0#8) False (s.cpu.iff2 = true) False (s.cpu.f.c = true) :=
  ⟨_, he, (((Becomes.refl s).setReg .a v).setFlags _).advance n, loadIrFlags_are v s.cpu.iff2 s.cpu.f.c⟩

end

/-- Settles O6: every form is one `setReg` of its source byte. -/
theorem load8PutsSourceInRegister : Obligations.Load8PutsSourceInRegister := by
  unfold Obligations.Load8PutsSourceInRegister
  intro s
  refine ⟨?ldRR, ?ldRN, ?ldRHl, ?ldRIxd, ?ldRIyd, ?ldABc, ?ldADe, ?ldANn⟩
  all_goals
    intros
    exact ⟨loadsReg_of_exec rfl, row_encode _ s⟩

/-- Settles O7: every form is one `writeByte`, which drops a byte whose page is ROM. -/
theorem store8PutsOneByte : Obligations.Store8PutsOneByte := by
  unfold Obligations.Store8PutsOneByte
  intro s
  refine ⟨?ldHlR, ?ldIxdR, ?ldIydR, ?ldHlN, ?ldIxdN, ?ldIydN, ?ldBcA, ?ldDeA, ?ldNnA⟩
  all_goals
    intros
    exact ⟨stores_of_exec rfl, row_encode _ s⟩

/-- Settles O8: the loads of A set flags, the loads of I and R change one register. -/
theorem interruptAndRefreshRegisterLoads : Obligations.InterruptAndRefreshRegisterLoads := by
  unfold Obligations.InterruptAndRefreshRegisterLoads
  intro s
  refine ⟨?ldAI, ?ldARefresh, ?ldIA, ?ldRefreshA⟩
  case ldAI =>
    obtain ⟨t, he, hb, hf⟩ := loadsIr_of_exec (i := .ldAI) (s := s) rfl
    exact ⟨t, he, hb, hf, row_encode .ldAI s⟩
  case ldARefresh =>
    obtain ⟨t, he, hb, hf⟩ := loadsIr_of_exec (i := .ldARefresh) (s := s) rfl
    exact ⟨t, he, hb, hf, row_encode .ldARefresh s⟩
  case ldIA | ldRefreshA => exact ⟨setsCpu_of_exec rfl rfl, row_encode _ s⟩

end Sys2Proof.Machine
end

section
/-! PROOF. The 16-bit loads, the pushes and the pops (41_load16.md). A word store, a push and a pop each have one lemma
that says which bytes of memory and which registers they touch; an instruction adds an advance of pc. -/

namespace Sys2Proof.Machine

section
variable {s t : State} {x : Cpu} {l : List (Word × Byte)} {i : Instr}

theorem Becomes.setPair (h : Becomes s t x l) (p : Pair) (v : Word) : Becomes s (t.setPair p v) (x.putPair p v) l :=
  h.update (by rw [State.setPair_cpu, h.1]) (t.setPair_mem p v) (by simp [SameRest])

/-- AF written whole: A, and all eight bits of F (41_load16.md rule R240). -/
theorem Becomes.setAf (h : Becomes s t x l) (hi lo : Byte) :
    Becomes s (t.setAf (mkWord hi lo)) { x with a := hi, f := Flags.ofByte lo } l :=
  h.update (by simp [h.1]) (State.setAf_mem ..) (by simp [SameRest])

/-- A change known in every register is one known in every register but F. -/
theorem Becomes.becomesF (h : Becomes s t x l) : BecomesF s t x l := by
  obtain ⟨rfl, hrest⟩ := h
  exact ⟨rfl, hrest⟩

/-- `pop16()` moves SP and changes nothing else (41_load16.md rule R222). -/
theorem State.pop16_becomes (s : State) : Becomes s s.pop16.2 { s.cpu with sp := s.cpu.sp + 2#16 } [] := by
  rw [State.pop16_state]
  exact Becomes.cpu s _ s.draws

theorem State.loByte_hl (s : State) : loByte s.hl = s.cpu.l := loByte_mkWord s.cpu.h s.cpu.l

theorem State.hiByte_hl (s : State) : hiByte s.hl = s.cpu.h := hiByte_mkWord s.cpu.h s.cpu.l

theorem setsPair_of_exec {p : Pair} {v : Word} {n : Nat} (he : exec i s = (s.setPair p v).done n) :
    SetsCpu i s (s.cpu.putPair p v) n :=
  ((Becomes.refl s).setPair p v).of_exec_done he rfl

theorem storesWord_of_exec {a v : Word} {n : Nat} (he : exec i s = (s.writeWord a v).done n) :
    Stores i s [(a, loByte v), (a + 1#16, hiByte v)] n :=
  (s.writeWord_becomes a v).of_exec_done he rfl

end

/-- Settles O9: every form writes one pair, IX, IY or SP; `LD HL,(nn)` is the pair form with HL. -/
theorem load16PutsWordInRegister : Obligations.Load16PutsWordInRegister := by
  unfold Obligations.Load16PutsWordInRegister
  intro s
  refine ⟨?ldDdNn, ?ldIxNn, ?ldIyNn, ?ldHlMem, ?ldDdMem, ?ldIxMem, ?ldIyMem, ?ldSpHl, ?ldSpIx, ?ldSpIy⟩
  case ldDdNn | ldHlMem | ldDdMem =>
    intros
    exact ⟨setsPair_of_exec rfl, row_encode _ s⟩
  all_goals
    intros
    exact ⟨setsCpu_of_exec rfl rfl, row_encode _ s⟩

/-- Settles O10: a store is one `writeWord`, a push one `push16`. -/
theorem store16AndPushPutLowByteLow : Obligations.Store16AndPushPutLowByteLow := by
  unfold Obligations.Store16AndPushPutLowByteLow
  intro s
  refine ⟨?ldMemHl, ?ldMemDd, ?ldMemIx, ?ldMemIy, ?pushQq, ?pushIx, ?pushIy⟩
  case ldMemHl =>
    intro nn
    rw [← s.loByte_hl, ← s.hiByte_hl]
    exact ⟨storesWord_of_exec rfl, row_encode _ s⟩
  case ldMemDd | ldMemIx | ldMemIy =>
    intros
    exact ⟨storesWord_of_exec rfl, row_encode _ s⟩
  case pushQq | pushIx | pushIy =>
    intros
    exact ⟨_, rfl, (s.push16_becomes _).advance _, row_encode _ s⟩

/-- Settles O11: the register is written after `pop16` has moved SP, and no register popped is SP. -/
theorem popTakesWordAtStackPointer : Obligations.PopTakesWordAtStackPointer := by
  unfold Obligations.PopTakesWordAtStackPointer
  intro s
  refine ⟨?popBc, ?popDe, ?popHl, ?popAf, fun _ => row_encode _ s, ?popIx, ?popIy⟩
  case popBc => exact (s.pop16_becomes.setPair .bc s.pop16.1).of_exec_done rfl rfl
  case popDe => exact (s.pop16_becomes.setPair .de s.pop16.1).of_exec_done rfl rfl
  case popHl => exact (s.pop16_becomes.setPair .hl s.pop16.1).of_exec_done rfl rfl
  case popAf =>
    obtain ⟨t, he, hb⟩ :=
      (s.pop16_becomes.setAf (s.readByte (s.cpu.sp + 1#16)) (s.readByte s.cpu.sp)).of_exec_done
        (i := .popQq .af) (n := 1) rfl rfl
    refine ⟨t, he, hb.becomesF, ?_⟩
    rw [hb.1, Flags.toByte_ofByte]
  case popIx => exact ⟨_, rfl, (s.pop16_becomes.setIx _).advance 2, row_encode .popIx s⟩
  case popIy => exact ⟨_, rfl, (s.pop16_becomes.setIy _).advance 2, row_encode .popIy s⟩

end Sys2Proof.Machine
end

section
/-! PROOF. The exchanges, the block transfers and the block searches (42_exchange_block.md). One iteration of a block
instruction is `blockLoad` or `blockCompare`, then `repeatUnless`: pc moves on when the condition to end holds and stays
otherwise. An instruction that does not repeat is the case in which it always holds. -/

namespace Sys2Proof.Machine

section
variable {s t : State} {x : Cpu} {l : List (Word × Byte)} {i : Instr} {p : Prop} [Decidable p] {ended : Bool}

/-! ### The exchanges -/

/-- Both pairs are read before either is written (42_exchange_block.md rule R243). -/
theorem State.setDe_setHl_swap (s : State) :
    (s.setDe s.hl).setHl s.de =
      { s with cpu := { s.cpu with d := s.cpu.h, e := s.cpu.l, h := s.cpu.d, l := s.cpu.e } } := by
  simp [State.setDe, State.setHl, State.hl, State.de]

/-- HL swapped with the word at the top of the stack, byte by byte (42_exchange_block.md rule R246). -/
theorem State.storeTop_setHl_becomes (s : State) :
    Becomes s ((s.storeTop s.hl).setHl (s.readWord s.cpu.sp))
      { s.cpu with h := s.readByte (s.cpu.sp + 1#16), l := s.readByte s.cpu.sp }
      [(s.cpu.sp + 1#16, s.cpu.h), (s.cpu.sp, s.cpu.l)] := by
  have h := (s.storeTop_becomes s.hl).setHl (s.readWord s.cpu.sp)
  rwa [State.hiByte_hl, State.loByte_hl, State.readWord, hiByte_mkWord, loByte_mkWord] at h

/-! ### Repetition -/

/-- BC has become 0 when it was 1. -/
theorem word_sub_one_eq_zero (v : Word) : v - 1#16 = 0#16 ↔ v = 1#16 := sub_eq_zero

/-- A row whose T-states are written in another form than the model's. -/
theorem row_of_tStates {n : Nat} (h : tStates i s = n) : Row i s (encode i) i.rIncrement n := h ▸ row_encode i s

/-- A block instruction goes on to the next one when it has ended, else stays at its pc; F is not touched. -/
theorem BecomesF.repeatUnless (h : BecomesF s t x l) (he : ended = true ↔ p) :
    ∃ u, t.repeatUnless ended = .next u ∧ BecomesF s u { x with pc := if p then x.pc + 2#16 else x.pc } l ∧
      u.cpu.f = t.cpu.f := by
  by_cases hp : p
  · obtain rfl : ended = true := he.2 hp
    rw [if_pos hp]
    exact ⟨t.advance 2, rfl, h.advance 2, rfl⟩
  · obtain rfl : ended = false := Bool.eq_false_iff.2 (mt he.1 hp)
    rw [if_neg hp]
    exact ⟨t, rfl, h, rfl⟩

/-! ### The block transfers -/

theorem blockLoadFlags_are (f : Flags) (bc : Word) :
    (blockLoadFlags f (bc - 1#16)).Are (f.s = true) (f.z = true) False (bc ≠ 1#16) False (f.c = true) := by
  refine ⟨?_, ?_, ?_, ?_, ?_, ?_⟩ <;>
    simp only [blockLoadFlags, bne_iff_ne, ne_eq, word_sub_one_eq_zero, Bool.false_eq_true]

/-- The store, then the three pairs, then F (42_exchange_block.md rule R249). -/
theorem State.blockLoad_becomesF (s : State) (step : Word) :
    BecomesF s (s.blockLoad step)
      (((s.cpu.putPair .hl (s.hl + step)).putPair .de (s.de + step)).putPair .bc (s.bc - 1#16))
      [(s.de, s.readByte s.hl)] :=
  ((((s.writeByte_becomes s.de (s.readByte s.hl)).setPair .hl _).setPair .de _).setPair .bc _).setFlags _

/-- The block transfers end when BC has become 0 (42_exchange_block.md rule R250). -/
theorem State.blockLoad_ended (s : State) (step : Word) :
    ((s.blockLoad step).bc == 0#16) = true ↔ s.bc = 1#16 := by
  have hbc : (s.blockLoad step).bc = s.bc - 1#16 := mkWord_hi_lo (s.bc - 1#16)
  rw [hbc, beq_iff_eq, word_sub_one_eq_zero]

theorem movesByte_of_exec {step : Word} (hx : exec i s = (s.blockLoad step).repeatUnless ended)
    (he : ended = true ↔ p) : MovesByte i s step (if p then s.cpu.pc + 2#16 else s.cpu.pc) := by
  obtain ⟨u, hu, hb, hf⟩ := (s.blockLoad_becomesF step).repeatUnless he
  refine ⟨u, hx.trans hu, hb, ?_⟩
  rw [hf]
  exact blockLoadFlags_are s.cpu.f s.bc

/-! ### The block searches -/

/-- The flags of A minus a byte, but for P/V and C (42_exchange_block.md rule R253). -/
theorem blockCompareFlags_are (a v : Byte) (bc : Word) (c : Bool) :
    (blockCompareFlags (sub8 a v false).2 (bc - 1#16) c).Are (128 ≤ (a.toNat + 256 - v.toNat) % 256) (a = v)
      (a.toNat % 16 < v.toNat % 16) (bc ≠ 1#16) True (c = true) := by
  have ha := a.isLt
  have hv := v.isLt
  have hr : (sub8 a v false).1.toNat = (a.toNat + 256 - v.toNat) % 256 := by
    have h := sub8_toNat a v false
    simp only [Bool.toNat_false] at h
    omega
  obtain ⟨hs, hz, hh, -⟩ := sub8_are a v false
  rw [hr] at hs hz
  refine ⟨hs, hz.trans ?_, hh, ?_, iff_of_true rfl trivial, Iff.rfl⟩
  · rw [BitVec.toNat_eq]
    omega
  · simp only [blockCompareFlags, bne_iff_ne, ne_eq, word_sub_one_eq_zero]

/-- HL and BC, then F; nothing is stored (42_exchange_block.md rule R253). -/
theorem State.blockCompare_becomesF (s : State) (step : Word) :
    BecomesF s (s.blockCompare step) ((s.cpu.putPair .hl (s.hl + step)).putPair .bc (s.bc - 1#16)) [] :=
  (((Becomes.refl s).setPair .hl _).setPair .bc _).setFlags _

theorem State.blockCompare_are (s : State) (step : Word) :
    (s.blockCompare step).cpu.f.Are (128 ≤ (s.cpu.a.toNat + 256 - (s.readByte s.hl).toNat) % 256)
      (s.cpu.a = s.readByte s.hl) (s.cpu.a.toNat % 16 < (s.readByte s.hl).toNat % 16) (s.bc ≠ 1#16) True
      (s.cpu.f.c = true) :=
  blockCompareFlags_are s.cpu.a (s.readByte s.hl) s.bc s.cpu.f.c

/-- The block searches end when BC has become 0 or the byte was found (42_exchange_block.md rule R254). -/
theorem State.blockCompare_ended (s : State) (step : Word) :
    ((s.blockCompare step).bc == 0#16 || (s.blockCompare step).cpu.f.z) = true ↔
      s.bc = 1#16 ∨ s.cpu.a = s.readByte s.hl := by
  have hbc : (s.blockCompare step).bc = s.bc - 1#16 := mkWord_hi_lo (s.bc - 1#16)
  obtain ⟨-, hz, -⟩ := s.blockCompare_are step
  rw [Bool.or_eq_true, hbc, beq_iff_eq, word_sub_one_eq_zero, hz]

theorem searchesByte_of_exec {step : Word} (hx : exec i s = (s.blockCompare step).repeatUnless ended)
    (he : ended = true ↔ p) : SearchesByte i s step (if p then s.cpu.pc + 2#16 else s.cpu.pc) := by
  obtain ⟨u, hu, hb, hf⟩ := (s.blockCompare_becomesF step).repeatUnless he
  refine ⟨u, hx.trans hu, hb, ?_⟩
  rw [hf]
  exact s.blockCompare_are step

end

/-- Settles O12: `EX AF,AF'` and `EXX` are one update of the CPU as the statement writes it. -/
theorem exchangesSwapRegisters : Obligations.ExchangesSwapRegisters := by
  unfold Obligations.ExchangesSwapRegisters
  intro s
  refine ⟨?exDeHl, ?exAfAf, ?exx, ?exSpHl, ?exSpIx, ?exSpIy⟩
  case exDeHl => exact ⟨setsCpu_of_exec (congrArg (State.done · 1) s.setDe_setHl_swap) rfl, row_encode .exDeHl s⟩
  case exAfAf | exx => exact ⟨setsCpu_of_exec rfl rfl, row_encode _ s⟩
  case exSpHl => exact ⟨_, rfl, s.storeTop_setHl_becomes.advance 1, row_encode .exSpHl s⟩
  case exSpIx => exact ⟨_, rfl, ((s.storeTop_becomes _).setIx _).advance 2, row_encode .exSpIx s⟩
  case exSpIy => exact ⟨_, rfl, ((s.storeTop_becomes _).setIy _).advance 2, row_encode .exSpIy s⟩

/-- Settles O13: LDI and LDD always end, LDIR and LDDR when BC was 1. -/
theorem blockTransferMovesOneByte : Obligations.BlockTransferMovesOneByte := by
  unfold Obligations.BlockTransferMovesOneByte
  intro s
  refine ⟨?ldi, ?ldir, ?ldd, ?lddr⟩
  case ldi | ldd => exact ⟨movesByte_of_exec (p := True) (ended := true) rfl (by decide), row_encode _ s⟩
  case ldir | lddr =>
    exact ⟨movesByte_of_exec rfl (s.blockLoad_ended _),
      row_of_tStates (if_congr (word_sub_one_eq_zero s.bc) rfl rfl)⟩

/-- Settles O14: CPI and CPD always end, CPIR and CPDR when BC was 1 or the byte was found. -/
theorem blockSearchComparesOneByte : Obligations.BlockSearchComparesOneByte := by
  unfold Obligations.BlockSearchComparesOneByte
  intro s
  refine ⟨?cpi, ?cpir, ?cpd, ?cpdr⟩
  case cpi | cpd => exact ⟨searchesByte_of_exec (p := True) (ended := true) rfl (by decide), row_encode _ s⟩
  case cpir | cpdr =>
    exact ⟨searchesByte_of_exec rfl (s.blockCompare_ended _),
      row_of_tStates (if_congr (or_congr_left (word_sub_one_eq_zero s.bc)) rfl rfl)⟩

end Sys2Proof.Machine
end

section
/-! PROOF. The 8-bit arithmetic and logic group (43_arith8.md). Every operation of the group computes a result and six
flags and puts them in A and F, in a register and F, in memory and F, or, for `CP`, the flags in F alone. The lemmas
before the theorems say so once for each of these ways, for every operand form. -/

namespace Sys2Proof.Machine

section
variable {s : State} {i : Instr} {v res : Byte} {cin : Bool} {n : Nat}

/-- `A <- res ; F <- fl` changes A and F and nothing else. -/
theorem State.setA_becomesF (s : State) (p : Byte × Fl) : BecomesF s (s.setA p) { s.cpu with a := p.1 } [] :=
  ((Becomes.refl s).setReg .a p.1).setFlags p.2

/-! ### ADD, ADC, SUB, SBC and CP (43_arith8.md rules R258, R259) -/

theorem addsToA_of_exec (he : exec i s = (s.setA (add8 s.cpu.a v cin)).done n) : AddsToA i s v cin n :=
  ⟨_, he, (s.setA_becomesF _).advance n, add8_toNat s.cpu.a v cin, add8_are s.cpu.a v cin⟩

theorem subsFromA_of_exec (he : exec i s = (s.setA (sub8 s.cpu.a v cin)).done n) : SubsFromA i s v cin n :=
  ⟨_, he, (s.setA_becomesF _).advance n, sub8_toNat s.cpu.a v cin, sub8_are s.cpu.a v cin⟩

/-- A difference without borrow, in natural numbers. -/
theorem sub8_false_toNat (a b : Byte) : (sub8 a b false).1.toNat = (a.toNat + 256 - b.toNat) % 256 := by
  have hb := b.isLt
  have h := sub8_toNat a b false
  simp only [Bool.toNat_false] at h
  omega

theorem comparesA_of_exec (he : exec i s = (s.setFlags (sub8 s.cpu.a v false).2).done n) : ComparesA i s v n := by
  refine ⟨_, he, ((Becomes.refl s).setFlags _).advance n, ?_⟩
  rw [← sub8_false_toNat]
  exact sub8_are s.cpu.a v false

/-! ### AND, XOR and OR (43_arith8.md rule R260) -/

theorem logicOnA_of_exec {op : Bool → Bool → Bool} {h : Bool} {p : Prop}
    (he : exec i s = (s.setA (res, logicFlags res h)).done n) (hh : h = true ↔ p)
    (hbits : ∀ k, res.getLsbD k = op (s.cpu.a.getLsbD k) (v.getLsbD k)) : LogicOnA i s v op p n := by
  obtain ⟨hs, hz, hhalf, hrest⟩ := logicFlags_are res h
  exact ⟨_, he, (s.setA_becomesF _).advance n, fun k _ => hbits k, hs, hz, hhalf.trans hh, hrest⟩

theorem andsA_of_exec (he : exec i s = (s.setA (and8 s.cpu.a v)).done n) : LogicOnA i s v and True n :=
  logicOnA_of_exec he (iff_of_true rfl trivial) fun _ => BitVec.getLsbD_and

theorem xorsA_of_exec (he : exec i s = (s.setA (xor8 s.cpu.a v)).done n) : LogicOnA i s v xor False n :=
  logicOnA_of_exec he Bool.false_eq_true.to_iff fun _ => BitVec.getLsbD_xor

theorem orsA_of_exec (he : exec i s = (s.setA (or8 s.cpu.a v)).done n) : LogicOnA i s v or False n :=
  logicOnA_of_exec he Bool.false_eq_true.to_iff fun _ => BitVec.getLsbD_or

/-! ### INC and DEC (43_arith8.md rule R261) -/

variable {p : Byte × Fl} {P : Flags → Byte → Prop}

theorem changesReg_of_exec {r : Reg8} (he : exec i s = (s.setRegFlags r p).done n)
    (hP : P (s.setRegFlags r p).cpu.f p.1) : ChangesReg i s r n P :=
  ⟨_, p.1, he, (((Becomes.refl s).setReg r p.1).setFlags p.2).advance n, hP⟩

theorem changesMem_of_exec {ea : Word} (he : exec i s = (s.modify ea p).done n)
    (hP : P (s.modify ea p).cpu.f p.1) : ChangesMem i s ea n P :=
  ⟨_, p.1, he, ((s.writeByte_becomes ea p.1).setFlags p.2).advance n, hP⟩

end

/-- Settles O15: every form is one `add8` into A, with the carry flag for `ADC`. -/
theorem addAdcByIntegerLaw : Obligations.AddAdcByIntegerLaw := by
  unfold Obligations.AddAdcByIntegerLaw
  intro s
  refine ⟨?addAR, ?addAN, ?addAHl, ?addAIxd, ?addAIyd, ?adcAR, ?adcAN, ?adcAHl, ?adcAIxd, ?adcAIyd⟩
  all_goals
    intros
    exact ⟨addsToA_of_exec rfl, row_encode _ s⟩

/-- Settles O16: every form is one `sub8` from A, with the carry flag as borrow for `SBC`. -/
theorem subSbcByIntegerLaw : Obligations.SubSbcByIntegerLaw := by
  unfold Obligations.SubSbcByIntegerLaw
  intro s
  refine ⟨?subR, ?subN, ?subHl, ?subIxd, ?subIyd, ?sbcAR, ?sbcAN, ?sbcAHl, ?sbcAIxd, ?sbcAIyd⟩
  all_goals
    intros
    exact ⟨subsFromA_of_exec rfl, row_encode _ s⟩

/-- Settles O17: half carry is 1 for `AND` and 0 for `XOR`. -/
theorem andXorBitwise : Obligations.AndXorBitwise := by
  unfold Obligations.AndXorBitwise
  intro s
  refine ⟨?andR, ?andN, ?andHl, ?andIxd, ?andIyd, ?xorR, ?xorN, ?xorHl, ?xorIxd, ?xorIyd⟩
  case andR | andN | andHl | andIxd | andIyd =>
    intros
    exact ⟨andsA_of_exec rfl, row_encode _ s⟩
  case xorR | xorN | xorHl | xorIxd | xorIyd =>
    intros
    exact ⟨xorsA_of_exec rfl, row_encode _ s⟩

/-- Settles O18: `OR` writes A, `CP` writes the flags of `sub8` alone. -/
theorem orBitwiseCpOnlyCompares : Obligations.OrBitwiseCpOnlyCompares := by
  unfold Obligations.OrBitwiseCpOnlyCompares
  intro s
  refine ⟨?orR, ?orN, ?orHl, ?orIxd, ?orIyd, ?cpR, ?cpN, ?cpHl, ?cpIxd, ?cpIyd⟩
  case orR | orN | orHl | orIxd | orIyd =>
    intros
    exact ⟨orsA_of_exec rfl, row_encode _ s⟩
  case cpR | cpN | cpHl | cpIxd | cpIyd =>
    intros
    exact ⟨comparesA_of_exec rfl, row_encode _ s⟩

/-- Settles O19: the register forms are one `setRegFlags`, the memory forms one `modify`, which drops a byte whose page
is ROM. -/
theorem incDec8KeepCarry : Obligations.IncDec8KeepCarry := by
  unfold Obligations.IncDec8KeepCarry
  intro s
  refine ⟨?incR, ?incHl, ?incIxd, ?incIyd, ?decR, ?decHl, ?decIxd, ?decIyd⟩
  case incR =>
    intro r
    exact ⟨changesReg_of_exec rfl (inc8_are (s.reg r) s.cpu.f.c), row_encode _ s⟩
  case decR =>
    intro r
    exact ⟨changesReg_of_exec rfl (dec8_are (s.reg r) s.cpu.f.c), row_encode _ s⟩
  case incHl | incIxd | incIyd =>
    intros
    exact ⟨changesMem_of_exec rfl (inc8_are _ s.cpu.f.c), row_encode _ s⟩
  case decHl | decIxd | decIyd =>
    intros
    exact ⟨changesMem_of_exec rfl (dec8_are _ s.cpu.f.c), row_encode _ s⟩

end Sys2Proof.Machine
end

section
/-! PROOF. The general-purpose arithmetic and CPU control group (44_general_cpu_control.md). `DAA` and `NEG` put a
result in A and its six flags in F, `CPL` does so with flags that it mostly keeps, `CCF` and `SCF` write F alone, and
the CPU control instructions are one update of the CPU. -/

namespace Sys2Proof.Machine

/-! ### DAA (44_general_cpu_control.md rule R310) -/

theorem byte_bit4 (v : Byte) : v.getLsbD 4 = decide (v.toNat / 16 % 2 = 1) := Nat.testBit_eq_decide_div_mod_eq

/-- The two parts of the correction have no bit in common, so their union is their sum. -/
theorem daaCorrection_toNat (low high : Bool) :
    ((if low then 0x06#8 else 0x00#8) ||| (if high then 0x60#8 else 0x00#8)).toNat =
      (if low = true then 6 else 0) + (if high = true then 96 else 0) := by
  cases low <;> cases high <;> decide

/-- The adjustment of `a` is its correction added, or subtracted after a subtraction. -/
theorem daa8_toNat (a : Byte) (h n c : Bool) :
    ((daa8 a h n c).1.toNat : Int) =
      if n = true then
        ((a.toNat : Int) - (if h = true ∨ 9 < a.toNat % 16 then 6 else 0) -
          (if c = true ∨ 153 < a.toNat then 96 else 0)) % 256
      else
        ((a.toNat : Int) + (if h = true ∨ 9 < a.toNat % 16 then 6 else 0) +
          (if c = true ∨ 153 < a.toNat then 96 else 0)) % 256 := by
  have hcorr := daaCorrection_toNat (h || decide (a.toNat % 16 > 9)) (c || decide (a.toNat > 0x99))
  simp only [Bool.or_eq_true, decide_eq_true_eq, gt_iff_lt] at hcorr
  cases n with
  | false =>
    simp only [daa8, Bool.false_eq_true, if_false, BitVec.toNat_add, gt_iff_lt, Bool.or_eq_true,
      decide_eq_true_eq, hcorr]
    split <;> split <;> omega
  | true =>
    simp only [daa8, if_true, BitVec.toNat_sub, gt_iff_lt, Bool.or_eq_true, decide_eq_true_eq, hcorr]
    split <;> split <;> omega

theorem daa8_are (a : Byte) (h n c : Bool) :
    (daa8 a h n c).2.Are (128 ≤ (daa8 a h n c).1.toNat) ((daa8 a h n c).1.toNat = 0)
      (a.toNat / 16 % 2 ≠ (daa8 a h n c).1.toNat / 16 % 2) (EvenOnes (daa8 a h n c).1) (n = true)
      (c = true ∨ 153 < a.toNat) := by
  refine ⟨?sign, ?zero, ?half, parity8_iff _, Iff.rfl, ?carry⟩
  case sign => simp only [daa8, byte_msb, decide_eq_true_eq]
  case zero => simp only [daa8, byte_zero, decide_eq_true_eq]
  case half =>
    have hbit : (daa8 a h n c).2.h = (a ^^^ (daa8 a h n c).1).getLsbD 4 := rfl
    rw [hbit, BitVec.getLsbD_xor, byte_bit4, byte_bit4, bne_iff_ne, ne_eq, decide_eq_decide]
    omega
  case carry => simp only [daa8, Bool.or_eq_true, decide_eq_true_eq, gt_iff_lt]

/-! ### NEG and CPL (44_general_cpu_control.md rules R311, R312) -/

/-- The flags of `0 - v`: only 80H is its own negative, and only 0 has no borrow. -/
theorem sub8_zero_are (v : Byte) :
    (sub8 0x00#8 v false).2.Are (128 ≤ (sub8 0x00#8 v false).1.toNat) ((sub8 0x00#8 v false).1.toNat = 0)
      (v.toNat % 16 ≠ 0) (v = 0x80#8) True (v ≠ 0x00#8) := by
  obtain ⟨hs, hz, hh, hpv, hn, hc⟩ := sub8_are 0x00#8 v false
  refine ⟨hs, hz, hh.trans ?half, hpv.trans ?overflow, hn, hc.trans ?borrow⟩
  case half => simp [Nat.pos_iff_ne_zero]
  case overflow =>
    rw [byte_toInt v, BitVec.toNat_eq]
    simp only [BitVec.toInt_zero, Bool.toNat_false, BitVec.toNat_ofNat]
    split <;> omega
  case borrow => simp [BitVec.toNat_eq, Nat.pos_iff_ne_zero]

/-- One's complement. -/
theorem xor_ones_toNat (v : Byte) : (v ^^^ 0xFF#8).toNat = 255 - v.toNat := by
  have h : v ^^^ 0xFF#8 = ~~~v := BitVec.xor_allOnes
  rw [h, BitVec.toNat_not]

theorem cplFlags_are (f : Flags) :
    (cplFlags f).Are (f.s = true) (f.z = true) True (f.pv = true) True (f.c = true) :=
  ⟨Iff.rfl, Iff.rfl, iff_of_true rfl trivial, Iff.rfl, iff_of_true rfl trivial, Iff.rfl⟩

/-! ### CCF and SCF (44_general_cpu_control.md rules R313, R314) -/

theorem keepSzp_are (f : Flags) (h n c : Bool) :
    (keepSzp f h n c).Are (f.s = true) (f.z = true) (h = true) (f.pv = true) (n = true) (c = true) :=
  ⟨Iff.rfl, Iff.rfl, Iff.rfl, Iff.rfl, Iff.rfl, Iff.rfl⟩

/-! ### The obligations -/

/-- Settles O20: `DAA` is one `daa8` into A. -/
theorem decimalAdjustCorrectsDigits : Obligations.DecimalAdjustCorrectsDigits := by
  unfold Obligations.DecimalAdjustCorrectsDigits
  intro s
  exact ⟨_, rfl, (s.setA_becomesF _).advance 1, daa8_toNat s.cpu.a s.cpu.f.h s.cpu.f.n s.cpu.f.c,
    daa8_are s.cpu.a s.cpu.f.h s.cpu.f.n s.cpu.f.c, row_encode .daa s⟩

/-- Settles O21: `NEG` is one `sub8` from 0; `CCF` and `SCF` keep A, S, Z and P/V. -/
theorem complementNegateAndCarryFlag : Obligations.ComplementNegateAndCarryFlag := by
  unfold Obligations.ComplementNegateAndCarryFlag
  intro s
  refine ⟨?cpl, ?neg, ?ccf, ?scf⟩
  case cpl =>
    exact ⟨_, rfl, (((Becomes.refl s).setReg .a _).setFlags _).advance 1, xor_ones_toNat s.cpu.a,
      cplFlags_are s.cpu.f, row_encode .cpl s⟩
  case neg =>
    have hres : (sub8 0x00#8 s.cpu.a false).1.toNat = (256 - s.cpu.a.toNat) % 256 := by
      simpa using sub8_false_toNat 0x00#8 s.cpu.a
    exact ⟨_, rfl, (s.setA_becomesF _).advance 2, hres, sub8_zero_are s.cpu.a, row_encode .neg s⟩
  case ccf =>
    have hf := keepSzp_are s.cpu.f s.cpu.f.c false (!s.cpu.f.c)
    rw [Bool.not_eq_true', Bool.false_eq_true] at hf
    exact ⟨_, rfl, ((Becomes.refl s).setFlags _).advance 1, hf, row_encode .ccf s⟩
  case scf =>
    have hf := keepSzp_are s.cpu.f false false true
    rw [Bool.false_eq_true, eq_self] at hf
    exact ⟨_, rfl, ((Becomes.refl s).setFlags _).advance 1, hf, row_encode .scf s⟩

/-- Settles O22: each of the seven is one update of the CPU that leaves pc to `done`. -/
theorem cpuControlSetsItsLatches : Obligations.CpuControlSetsItsLatches := by
  unfold Obligations.CpuControlSetsItsLatches
  intro s
  refine ⟨?nop, ?halt, ?di, ?ei, ?im0, ?im1, ?im2⟩
  all_goals exact ⟨setsCpu_of_exec rfl rfl, row_encode _ s⟩

end Sys2Proof.Machine
end

section
/-! PROOF. The 16-bit arithmetic group (45_arith16.md). `ADD`, `ADC` and `SBC` write HL, IX or IY and then F; `INC` and
`DEC` write one pair, IX or IY and no flag. -/

namespace Sys2Proof.Machine

section
variable {s : State} {i : Instr} {v : Word} {x : Fl} {n : Nat}

/-! ### ADD, ADC and SBC (45_arith16.md rules R322, R323) -/

/-- An instruction that writes HL and then F, and changes nothing else. -/
theorem writesHlAndFlags_of_exec (he : exec i s = ((s.setHl v).setFlags x).done n) :
    ∃ t, exec i s = .next t ∧
      BecomesF s t { s.cpu with h := t.cpu.h, l := t.cpu.l, pc := s.cpu.pc + BitVec.ofNat 16 n } [] ∧
      t.hl = v ∧ t.cpu.f = (s.setFlags x).cpu.f :=
  ⟨_, he, (((Becomes.refl s).setHl v).setFlags x).advance n, mkWord_hi_lo v, rfl⟩

/-- F after a 16-bit `ADD`: S, Z and P/V of `f`, H and C of `add16`. -/
theorem add16Flags_are (s : State) (f : Flags) (a b : Word) :
    Add16Flags f (s.setFlags (add16Flags f (add16 a b))).cpu.f a b := by
  obtain ⟨-, hhalf, hcarry⟩ := add16_spec a b
  obtain ⟨hs, hz, hh, hpv, hn, hc⟩ := keepSzp_are f (add16 a b).2.1 false (add16 a b).2.2
  exact ⟨hs, hz, hh.trans hhalf, hpv, hn.trans Bool.false_eq_true.to_iff, hc.trans hcarry⟩

/-! ### INC and DEC (45_arith16.md rules R329 to R334) -/

theorem word_add_one (v : Word) : v + 1#16 = BitVec.ofNat 16 (v.toNat + 1) := rfl

/-- One less is 65535 more, modulo 65536. -/
theorem word_sub_one (v : Word) : v - 1#16 = BitVec.ofNat 16 (v.toNat + 65535) := by
  rw [Nat.add_comm]
  rfl

end

/-- Settles O23: every form is one `add16` into HL, IX or IY, with the flags of `keepSzp`. -/
theorem add16KeepsSignZeroParity : Obligations.Add16KeepsSignZeroParity := by
  unfold Obligations.Add16KeepsSignZeroParity
  intro s
  refine ⟨?addHlSs, ?addIxPp, ?addIyRr⟩
  case addHlSs =>
    intro ss
    obtain ⟨t, he, hb, hv, hf⟩ := writesHlAndFlags_of_exec (i := .addHlSs ss) (s := s) rfl
    obtain ⟨hsum, -⟩ := add16_spec s.hl (s.pair ss)
    have hflags := add16Flags_are s s.cpu.f s.hl (s.pair ss)
    exact ⟨t, he, hb, hv ▸ hsum, hf ▸ hflags, row_encode _ s⟩
  case addIxPp =>
    intro pp
    obtain ⟨hsum, -⟩ := add16_spec s.cpu.ix (s.pairX s.cpu.ix pp)
    exact ⟨_, rfl, (((Becomes.refl s).setIx _).setFlags _).advance 2, hsum, add16Flags_are _ s.cpu.f s.cpu.ix _,
      row_encode _ s⟩
  case addIyRr =>
    intro rr
    obtain ⟨hsum, -⟩ := add16_spec s.cpu.iy (s.pairX s.cpu.iy rr)
    exact ⟨_, rfl, (((Becomes.refl s).setIy _).setFlags _).advance 2, hsum, add16Flags_are _ s.cpu.f s.cpu.iy _,
      row_encode _ s⟩

/-- Settles O24: one `adc16` or `sbc16` of HL, the pair and the carry flag, into HL and F. -/
theorem adcSbc16ByIntegerLaw : Obligations.AdcSbc16ByIntegerLaw := by
  unfold Obligations.AdcSbc16ByIntegerLaw
  intro s
  refine ⟨?adcHlSs, ?sbcHlSs⟩
  case adcHlSs =>
    intro ss
    obtain ⟨t, he, hb, hv, hf⟩ := writesHlAndFlags_of_exec (i := .adcHlSs ss) (s := s) rfl
    obtain ⟨hsum, hflags⟩ := adc16_are s.hl (s.pair ss) s.cpu.f.c
    rw [← hv] at hsum hflags
    exact ⟨t, he, hb, hsum, hf ▸ hflags, row_encode _ s⟩
  case sbcHlSs =>
    intro ss
    obtain ⟨t, he, hb, hv, hf⟩ := writesHlAndFlags_of_exec (i := .sbcHlSs ss) (s := s) rfl
    obtain ⟨hdiff, hflags⟩ := sbc16_are s.hl (s.pair ss) s.cpu.f.c
    rw [← hv] at hdiff hflags
    exact ⟨t, he, hb, hdiff, hf ▸ hflags, row_encode _ s⟩

/-- Settles O25: the pair forms are one `setPair`, the others one update of IX or IY; none touches F. -/
theorem incDec16WriteNoFlag : Obligations.IncDec16WriteNoFlag := by
  unfold Obligations.IncDec16WriteNoFlag
  intro s
  simp only [← word_add_one, ← word_sub_one]
  refine ⟨?incSs, ?decSs, ?incIx, ?decIx, ?incIy, ?decIy⟩
  case incSs | decSs =>
    intro ss
    exact ⟨setsPair_of_exec rfl, row_encode _ s⟩
  case incIx | decIx | incIy | decIy => exact ⟨setsCpu_of_exec rfl rfl, row_encode _ s⟩

end Sys2Proof.Machine
end

section
/-! PROOF. The rotates and shifts (46_rotate_shift.md). The accumulator rotates keep S, Z and P/V; the rotates and
shifts of the CB page set the flags of their result, in a register or in memory; `RLD` and `RRD` move the digits of A
and of the byte at HL. -/

namespace Sys2Proof.Machine

section
variable {s : State} {i : Instr} {op : RotOp}

/-! ### The accumulator rotates (46_rotate_shift.md rules R336 to R339) -/

theorem rotatesA_of_exec (he : exec i s = (s.rotateA op).done 1) : RotatesA i s op := by
  obtain ⟨hbits, hout⟩ := rot8_bit op s.cpu.a s.cpu.f.c
  obtain ⟨hs, hz, hh, hpv, hn, hc⟩ := keepSzp_are s.cpu.f false false (rot8 op s.cpu.a s.cpu.f.c).2
  have hzero : false = true ↔ False := Bool.false_eq_true.to_iff
  exact ⟨_, he, (((Becomes.refl s).setReg .a _).setFlags _).advance 1, hbits, hs, hz, hh.trans hzero, hpv,
    hn.trans hzero, hc.trans (Bool.eq_iff_iff.1 hout)⟩

/-! ### The CB page (46_rotate_shift.md rule R335) -/

/-- F after the flags of `shift8` are written, with its result. -/
theorem shift8_shiftOf (t : State) (op : RotOp) (v : Byte) (cin : Bool) :
    ShiftOf op (t.setFlags (shift8 op v cin).2).cpu.f v (shift8 op v cin).1 cin := by
  obtain ⟨hbits, hout⟩ := rot8_bit op v cin
  obtain ⟨hs, hz, hh, hpv, hn, hc⟩ := szpFlags_are (rot8 op v cin).1 (rot8 op v cin).2
  exact ⟨hbits, hs, hz, hh, hpv, hn, hc.trans (Bool.eq_iff_iff.1 hout)⟩

theorem shiftsReg_of_exec {r : Reg8}
    (he : exec i s = (s.setRegFlags r (shift8 op (s.reg r) s.cpu.f.c)).done 2) :
    ChangesReg i s r 2 (fun f res => ShiftOf op f (s.reg r) res s.cpu.f.c) :=
  changesReg_of_exec he (shift8_shiftOf _ op (s.reg r) s.cpu.f.c)

theorem shiftsMem_of_exec {ea : Word} {n : Nat}
    (he : exec i s = (s.modify ea (shift8 op (s.readByte ea) s.cpu.f.c)).done n) :
    ChangesMem i s ea n (fun f res => ShiftOf op f (s.readByte ea) res s.cpu.f.c) :=
  changesMem_of_exec he (shift8_shiftOf _ op (s.readByte ea) s.cpu.f.c)

/-! ### RLD and RRD (46_rotate_shift.md rules R368, R369) -/

/-- A byte put together from its two digits. -/
theorem digits_toNat (hi lo : BitVec 4) : (hi ++ lo).toNat = hi.toNat * 16 + lo.toNat := by
  rw [BitVec.toNat_append, ← Nat.shiftLeft_add_eq_or_of_lt lo.isLt, Nat.shiftLeft_eq]

theorem hiNibble_toNat (v : Byte) : (hiNibble v).toNat = v.toNat / 16 := by
  have hv := v.isLt
  simp only [hiNibble, BitVec.extractLsb'_toNat, Nat.shiftRight_eq_div_pow]
  omega

theorem loNibble_toNat (v : Byte) : (loNibble v).toNat = v.toNat % 16 := by
  simp only [loNibble, BitVec.extractLsb'_toNat, Nat.shiftRight_zero]

/-- A store, then A, then F with the flags of A and carry kept. -/
theorem rotatesDigits_of_exec {res a : Byte}
    (he : exec i s = (((s.writeByte s.hl res).setReg .a a).setFlags (szpFlags a s.cpu.f.c)).done 2) :
    ∃ t, exec i s = .next t ∧ BecomesF s t { s.cpu with a := t.cpu.a, pc := s.cpu.pc + 2#16 } [(s.hl, res)] ∧
      t.cpu.a = a ∧
      t.cpu.f.Are (128 ≤ t.cpu.a.toNat) (t.cpu.a.toNat = 0) False (EvenOnes t.cpu.a) False (s.cpu.f.c = true) :=
  ⟨_, he, (((s.writeByte_becomes s.hl res).setReg .a a).setFlags _).advance 2, rfl, szpFlags_are a s.cpu.f.c⟩

end

/-- Settles O26: each of the four is one `rotateA`. -/
theorem rotateAccumulatorKeepsSignZeroParity : Obligations.RotateAccumulatorKeepsSignZeroParity := by
  unfold Obligations.RotateAccumulatorKeepsSignZeroParity
  intro s
  refine ⟨?rlca, ?rla, ?rrca, ?rra⟩
  all_goals exact ⟨rotatesA_of_exec rfl, row_encode _ s⟩

/-- Settles O27: every form is one `shift8` of a register. -/
theorem shiftRegisterMovesBits : Obligations.ShiftRegisterMovesBits := by
  unfold Obligations.ShiftRegisterMovesBits
  intro s
  refine ⟨?rlcR, ?rrcR, ?rlR, ?rrR, ?slaR, ?sraR, ?srlR⟩
  all_goals
    intro r
    exact ⟨shiftsReg_of_exec rfl, row_encode _ s⟩

/-- Settles O28: every form is one `shift8` of the byte at HL, which is dropped when its page is ROM. -/
theorem shiftHlMovesBits : Obligations.ShiftHlMovesBits := by
  unfold Obligations.ShiftHlMovesBits
  intro s
  refine ⟨?rlcHl, ?rrcHl, ?rlHl, ?rrHl, ?slaHl, ?sraHl, ?srlHl⟩
  all_goals exact ⟨shiftsMem_of_exec rfl, row_encode _ s⟩

/-- Settles O29: every form is one `shift8` of the byte at IX + d. -/
theorem shiftIxMovesBits : Obligations.ShiftIxMovesBits := by
  unfold Obligations.ShiftIxMovesBits
  intro s
  refine ⟨?rlcIxd, ?rrcIxd, ?rlIxd, ?rrIxd, ?slaIxd, ?sraIxd, ?srlIxd⟩
  all_goals
    intro d
    exact ⟨shiftsMem_of_exec rfl, row_encode _ s⟩

/-- Settles O30: every form is one `shift8` of the byte at IY + d. -/
theorem shiftIyMovesBits : Obligations.ShiftIyMovesBits := by
  unfold Obligations.ShiftIyMovesBits
  intro s
  refine ⟨?rlcIyd, ?rrcIyd, ?rlIyd, ?rrIyd, ?slaIyd, ?sraIyd, ?srlIyd⟩
  all_goals
    intro d
    exact ⟨shiftsMem_of_exec rfl, row_encode _ s⟩

/-- Settles O31: the byte stored and A are put together from the digits of both. -/
theorem rotateDigitsMovesNibbles : Obligations.RotateDigitsMovesNibbles := by
  unfold Obligations.RotateDigitsMovesNibbles
  intro s
  refine ⟨?rld, ?rrd⟩
  case rld =>
    obtain ⟨t, he, hb, ha, hf⟩ := rotatesDigits_of_exec (i := .rld) (s := s) rfl
    refine ⟨t, _, he, hb, ?acc, ?mem, hf, row_encode .rld s⟩
    case acc => rw [ha, digits_toNat, hiNibble_toNat, hiNibble_toNat]
    case mem => rw [digits_toNat, loNibble_toNat, loNibble_toNat]
  case rrd =>
    obtain ⟨t, he, hb, ha, hf⟩ := rotatesDigits_of_exec (i := .rrd) (s := s) rfl
    refine ⟨t, _, he, hb, ?acc, ?mem, hf, row_encode .rrd s⟩
    case acc => rw [ha, digits_toNat, hiNibble_toNat, loNibble_toNat]
    case mem => rw [digits_toNat, loNibble_toNat, hiNibble_toNat]

end Sys2Proof.Machine
end

section
/-! PROOF. The bit test, set and reset group (47_bit.md). `BIT` writes F alone; `SET` and `RES` put back a register or a
byte with one bit written. -/

namespace Sys2Proof.Machine

section
variable {s : State} {i : Instr} {b : BitVec 3} {v res : Byte} {w : Bool} {n : Nat}

theorem testsBit_of_exec (he : exec i s = (s.setFlags (bitFlags b v s.cpu.f.c)).done n) : TestsBit i s b v n :=
  ⟨_, he, ((Becomes.refl s).setFlags _).advance n, bitFlags_are b v s.cpu.f.c⟩

/-- `res` is `v` with bit `b` written to `w` (47_bit.md rules R374, R378). -/
def BitWritten (b : BitVec 3) (v : Byte) (w : Bool) (res : Byte) : Prop :=
  ∀ k, k < 8 → res.getLsbD k = if k = b.toNat then w else v.getLsbD k

theorem setBit8_bitWritten (b : BitVec 3) (v : Byte) : BitWritten b v true (setBit8 b v) := by
  intro k hk
  rw [setBit8_bit b v k hk]
  by_cases h : k = b.toNat <;> simp [h]

theorem resBit8_bitWritten (b : BitVec 3) (v : Byte) : BitWritten b v false (resBit8 b v) := by
  intro k hk
  rw [resBit8_bit b v k hk]
  by_cases h : k = b.toNat <;> simp [h]

theorem writesBitOfReg_of_exec {r : Reg8} (he : exec i s = (s.setReg r res).done 2)
    (hb : BitWritten b (s.reg r) w res) : WritesBitOfReg i s b r w :=
  ⟨_, res, he, ((Becomes.refl s).setReg r res).advance 2, hb⟩

theorem writesBitOfMem_of_exec {ea : Word} (he : exec i s = (s.writeByte ea res).done n)
    (hb : BitWritten b (s.readByte ea) w res) : WritesBitOfMem i s b ea w n :=
  ⟨_, res, he, (s.writeByte_becomes ea res).advance n, hb⟩

end

/-- Settles O32: every form is one `setFlags` of `bitFlags`. -/
theorem bitTestOnlySetsFlags : Obligations.BitTestOnlySetsFlags := by
  unfold Obligations.BitTestOnlySetsFlags
  intro s
  refine ⟨?bitBR, ?bitBHl, ?bitBIxd, ?bitBIyd⟩
  all_goals
    intros
    exact ⟨testsBit_of_exec rfl, row_encode _ s⟩

/-- Settles O33: every form is one `setReg` or one `writeByte`, which drops a byte whose page is ROM. -/
theorem bitSetResetWritesOneBit : Obligations.BitSetResetWritesOneBit := by
  unfold Obligations.BitSetResetWritesOneBit
  intro s
  refine ⟨?setBR, ?setBHl, ?setBIxd, ?setBIyd, ?resBR, ?resBHl, ?resBIxd, ?resBIyd⟩
  case setBR =>
    intro b r
    exact ⟨writesBitOfReg_of_exec rfl (setBit8_bitWritten b _), row_encode _ s⟩
  case resBR =>
    intro b r
    exact ⟨writesBitOfReg_of_exec rfl (resBit8_bitWritten b _), row_encode _ s⟩
  case setBHl | setBIxd | setBIyd =>
    intro b
    intros
    exact ⟨writesBitOfMem_of_exec rfl (setBit8_bitWritten b _), row_encode _ s⟩
  case resBHl | resBIxd | resBIyd =>
    intro b
    intros
    exact ⟨writesBitOfMem_of_exec rfl (resBit8_bitWritten b _), row_encode _ s⟩

end Sys2Proof.Machine
end

section
/-! PROOF. The jump, call and return group (48_jump_call_return.md). A jump is one `setPc`; a conditional one is a choice
between it and an advance of pc; a call is one `push16` before it, and a return one `pop16`. -/

namespace Sys2Proof.Machine

section
variable {s : State} {i : Instr} {v : Word} {n : Nat} {c : Bool} {p : Prop} [Decidable p]

theorem goesTo_of_exec (he : exec i s = .next (s.setPc v)) : GoesTo i s v :=
  ⟨_, he, (Becomes.refl s).setPc v⟩

/-- A jump when a condition holds, past the instruction when it does not. -/
theorem Becomes.jumpIf {t : State} {x : Cpu} {l : List (Word × Byte)} (h : Becomes s t x l) (hc : c = true ↔ p) :
    ∃ u, (if c = true then .next (t.setPc v) else t.done n) = (.next u : Result) ∧
      Becomes s u { x with pc := if p then v else x.pc + BitVec.ofNat 16 n } l := by
  by_cases hp : p
  · rw [if_pos (hc.2 hp), if_pos hp]
    exact ⟨_, rfl, h.setPc v⟩
  · rw [if_neg (mt hc.1 hp), if_neg hp]
    exact ⟨_, rfl, h.advance n⟩

theorem goesTo_of_exec_ite (he : exec i s = if c = true then .next (s.setPc v) else s.done n) (hc : c = true ↔ p) :
    GoesTo i s (if p then v else s.cpu.pc + BitVec.ofNat 16 n) := by
  obtain ⟨u, hu, hb⟩ := (Becomes.refl s).jumpIf hc
  exact ⟨u, he.trans hu, hb⟩

theorem calls_of_exec (he : exec i s = .next (s.call n v)) : Calls i s (s.cpu.pc + BitVec.ofNat 16 n) v :=
  ⟨_, he, s.call_becomes n v⟩

/-- SP moves by two, and pc is the word popped (41_load16.md rule R222). -/
theorem State.returnFrom_becomes (s : State) :
    Becomes s s.returnFrom
      { s.cpu with sp := s.cpu.sp + 2#16, pc := mkWord (s.readByte (s.cpu.sp + 1#16)) (s.readByte s.cpu.sp) } [] := by
  rw [s.returnFrom_eq]
  exact Becomes.cpu s _ s.draws

/-- IFF1 is restored after the return (48_jump_call_return.md rule R398). -/
theorem State.returnFrom_restoreIff_becomes (s : State) :
    Becomes s s.returnFrom.restoreIff
      { s.cpu with
        sp := s.cpu.sp + 2#16, pc := mkWord (s.readByte (s.cpu.sp + 1#16)) (s.readByte s.cpu.sp),
        iff1 := s.cpu.iff2 } [] := by
  rw [s.returnFrom_eq]
  exact Becomes.cpu s _ s.draws

theorem returns_of_exec (he : exec i s = .next s.returnFrom) : Returns i s s.cpu.iff1 :=
  ⟨_, he, s.returnFrom_becomes⟩

/-- B has become 0 when it was 1. -/
theorem byte_sub_one_eq_zero (v : Byte) : v - 1#8 = 0#8 ↔ v = 1#8 := sub_eq_zero

end

/-- Settles O34: the condition of `JP cc,nn` is the model's own. -/
theorem jumpAbsoluteGoesToTarget : Obligations.JumpAbsoluteGoesToTarget := by
  unfold Obligations.JumpAbsoluteGoesToTarget
  intro s
  refine ⟨?jpNn, ?jpCcNn, ?jpHl, ?jpIx, ?jpIy⟩
  case jpNn =>
    intro nn
    exact ⟨goesTo_of_exec rfl, row_encode _ s⟩
  case jpCcNn =>
    intro cc nn
    exact ⟨goesTo_of_exec_ite rfl Iff.rfl, row_encode _ s⟩
  case jpHl | jpIx | jpIy => exact ⟨goesTo_of_exec rfl, row_encode _ s⟩

/-- Settles O35: a relative jump is taken by its flag; `DJNZ` falls through when B was 1. -/
theorem jumpRelativeAddsDisplacement : Obligations.JumpRelativeAddsDisplacement := by
  unfold Obligations.JumpRelativeAddsDisplacement
  intro s
  have hc : (!s.cpu.f.c) = true ↔ s.cpu.f.c = false := by rw [Bool.not_eq_true']
  have hz : (!s.cpu.f.z) = true ↔ s.cpu.f.z = false := by rw [Bool.not_eq_true']
  refine ⟨?jrE, ?jrCE, ?jrNcE, ?jrZE, ?jrNzE, ?djnzE⟩
  case jrE =>
    intro e
    exact ⟨goesTo_of_exec rfl, row_encode _ s⟩
  case jrCE | jrZE =>
    intro e
    exact ⟨goesTo_of_exec_ite rfl Iff.rfl, row_encode _ s⟩
  case jrNcE =>
    intro e
    exact ⟨goesTo_of_exec_ite rfl hc, row_of_tStates (if_congr hc rfl rfl)⟩
  case jrNzE =>
    intro e
    exact ⟨goesTo_of_exec_ite rfl hz, row_of_tStates (if_congr hz rfl rfl)⟩
  case djnzE =>
    intro e
    have htaken : (s.cpu.b - 1#8 != 0#8) = true ↔ ¬ s.cpu.b = 1#8 := by rw [bne_iff_ne, ne_eq, byte_sub_one_eq_zero]
    obtain ⟨u, hu, hb⟩ :=
      ((Becomes.refl s).setReg .b (s.cpu.b - 1#8)).jumpIf (v := s.relTarget e) (n := 2) htaken
    rw [ite_not] at hb
    have ht : tStates (.djnzE e) s = if s.cpu.b = 1#8 then 8 else 13 := by
      simp only [tStates, ne_eq, byte_sub_one_eq_zero, ite_not]
    exact ⟨u, hu, hb, row_of_tStates ht⟩

/-- Settles O36: the address pushed is that of the following instruction. -/
theorem callRestartPushReturnAddress : Obligations.CallRestartPushReturnAddress := by
  unfold Obligations.CallRestartPushReturnAddress
  intro s
  refine ⟨?callNn, ?callCcNn, ?rstP⟩
  case callNn =>
    intro nn
    exact ⟨calls_of_exec rfl, row_encode _ s⟩
  case callCcNn =>
    intro cc nn
    refine ⟨?_, row_encode _ s⟩
    split
    next h => exact calls_of_exec (if_pos h)
    next h => exact goesTo_of_exec (if_neg h)
  case rstP =>
    intro y
    have hy : restartAddr y = BitVec.ofNat 16 (8 * y.toNat) := by
      rw [← restartAddr_toNat, BitVec.ofNat_toNat, BitVec.setWidth_eq]
    exact ⟨hy ▸ calls_of_exec rfl, row_encode _ s⟩

/-- Settles O37: the returns are one `returnFrom`; `RETN` then copies IFF2. -/
theorem returnPopsProgramCounter : Obligations.ReturnPopsProgramCounter := by
  unfold Obligations.ReturnPopsProgramCounter
  intro s
  refine ⟨?ret, ?retCc, ?reti, ?retn⟩
  case ret | reti => exact ⟨returns_of_exec rfl, row_encode _ s⟩
  case retCc =>
    intro cc
    refine ⟨?_, row_encode _ s⟩
    split
    next h => exact returns_of_exec (if_pos h)
    next h => exact goesTo_of_exec (if_neg h)
  case retn => exact ⟨⟨_, rfl, s.returnFrom_restoreIff_becomes⟩, row_encode .retn s⟩

end Sys2Proof.Machine
end

section
/-! PROOF. The input and output group (49_io.md). The statements give what an instruction does after its port access, in
the state that the access leaves; the access itself changes no register. -/

namespace Sys2Proof.Machine

section
variable {s t : State} {x : Cpu} {l : List (Word × Byte)} {i : Instr} {p : Prop} [Decidable p] {ended : Bool}

/-- Nothing done yet in the state that a port read leaves. -/
theorem State.ioRead_becomes (s : State) (a : Word) : Becomes (s.ioRead a).2 (s.ioRead a).2 s.cpu [] :=
  s.ioRead_cpu a ▸ Becomes.refl _

/-- Nothing done yet in the state that a port write leaves. -/
theorem State.ioWrite_becomes (s : State) (a : Word) (v : Byte) :
    Becomes (s.ioWrite a v) (s.ioWrite a v) s.cpu [] :=
  s.ioWrite_cpu a v ▸ Becomes.refl _

/-- Flags of which Z alone is computed, after the rest of the CPU is settled (49_io.md rule R402). -/
theorem Becomes.setFlagsBlockIo (h : Becomes s t x l) (z : Bool) : BecomesF s (t.setFlagsBlockIo z) x l := by
  obtain ⟨rfl, hm, hr⟩ := h
  exact ⟨rfl, hm.of_eq rfl rfl, hr⟩

theorem byte_sub_one_beq_zero (v : Byte) : (v - 1#8 == 0#8) = true ↔ v = 1#8 := by
  rw [beq_iff_eq, byte_sub_one_eq_zero]

/-! ### The block inputs -/

/-- The port read, the store, HL, B, then F (49_io.md rule R402). -/
theorem State.blockIn_becomesF (s : State) (step : Word) :
    BecomesF (s.ioRead s.bc).2 (s.blockIn step) ((s.cpu.putPair .hl (s.hl + step)).put .b (s.cpu.b - 1#8))
      [(s.hl, (s.ioRead s.bc).1)] :=
  ((((s.ioRead_becomes s.bc).then_store s.hl _).setPair .hl _).setReg .b _).setFlagsBlockIo _

/-- The block inputs end when B has become 0 (49_io.md rule R403). -/
theorem State.blockIn_ended (s : State) (step : Word) :
    ((s.blockIn step).cpu.b == 0#8) = true ↔ s.cpu.b = 1#8 :=
  byte_sub_one_beq_zero s.cpu.b

theorem inputsByte_of_exec {step : Word} (hx : exec i s = (s.blockIn step).repeatUnless ended)
    (he : ended = true ↔ p) : InputsByte i s step (if p then s.cpu.pc + 2#16 else s.cpu.pc) := by
  obtain ⟨u, hu, hb, hf⟩ := (s.blockIn_becomesF step).repeatUnless he
  refine ⟨u, hx.trans hu, hb, ?_⟩
  rw [hf]
  exact byte_sub_one_beq_zero s.cpu.b

/-! ### The block outputs -/

/-- A port write does not look at the registers. -/
theorem State.setReg_ioWrite (s : State) (r : Reg8) (w : Byte) (a : Word) (v : Byte) :
    (s.setReg r w).ioWrite a v = (s.ioWrite a v).setReg r w := by
  unfold State.ioWrite
  rw [State.setReg_cfg]
  cases r <;> cases portReg s.cfg (loByte a) <;> rfl

/-- The port write, B, HL, then F; the write is made with B already decremented (49_io.md rule R408). -/
theorem State.blockOut_becomesF (s : State) (step : Word) :
    BecomesF (s.ioWrite (mkWord (s.cpu.b - 1#8) s.cpu.c) (s.readByte s.hl)) (s.blockOut step)
      ((s.cpu.putPair .hl (s.hl + step)).put .b (s.cpu.b - 1#8)) [] := by
  have h := ((((s.ioWrite_becomes (mkWord (s.cpu.b - 1#8) s.cpu.c) (s.readByte s.hl)).setReg .b
    (s.cpu.b - 1#8)).setPair .hl (s.hl + step)).setFlagsBlockIo (s.cpu.b - 1#8 == 0#8))
  rw [← State.setReg_ioWrite] at h
  exact h

/-- The block outputs end when B has become 0 (49_io.md rule R409). -/
theorem State.blockOut_ended (s : State) (step : Word) :
    ((s.blockOut step).cpu.b == 0#8) = true ↔ s.cpu.b = 1#8 := by
  have hb : (s.blockOut step).cpu.b = s.cpu.b - 1#8 := congrArg Cpu.b (s.blockOut_becomesF step).1
  rw [hb, byte_sub_one_beq_zero]

theorem outputsByte_of_exec {step : Word} (hx : exec i s = (s.blockOut step).repeatUnless ended)
    (he : ended = true ↔ p) : OutputsByte i s step (if p then s.cpu.pc + 2#16 else s.cpu.pc) := by
  obtain ⟨u, hu, hb, hf⟩ := (s.blockOut_becomesF step).repeatUnless he
  refine ⟨u, hx.trans hu, hb, ?_⟩
  rw [hf]
  exact byte_sub_one_beq_zero s.cpu.b

end

/-- Settles O38: one port access and one register; only `IN r,(C)` writes flags. -/
theorem inputOutputAtItsAddress : Obligations.InputOutputAtItsAddress := by
  unfold Obligations.InputOutputAtItsAddress
  intro s
  refine ⟨?inAN, ?inRC, ?outNA, ?outCR⟩
  case inAN =>
    intro n
    exact ⟨_, rfl, ((s.ioRead_becomes _).setReg .a _).advance 2, row_encode _ s⟩
  case inRC =>
    intro r
    have hf := szpFlags_are (s.ioRead s.bc).1 s.cpu.f.c
    have hz : (s.ioRead s.bc).1.toNat = 0 ↔ (s.ioRead s.bc).1 = 0#8 := (BitVec.toNat_eq (y := 0#8)).symm
    rw [hz] at hf
    exact ⟨_, rfl, (((s.ioRead_becomes s.bc).setReg r _).setFlags _).advance 2, hf, row_encode _ s⟩
  case outNA =>
    intro n
    exact ⟨_, rfl, (s.ioWrite_becomes _ _).advance 2, row_encode _ s⟩
  case outCR =>
    intro r
    exact ⟨_, rfl, (s.ioWrite_becomes _ _).advance 2, row_encode _ s⟩

/-- Settles O39: INI and IND always end, INIR and INDR when B was 1. -/
theorem blockInputStoresOneByte : Obligations.BlockInputStoresOneByte := by
  unfold Obligations.BlockInputStoresOneByte
  intro s
  refine ⟨?ini, ?inir, ?ind, ?indr⟩
  case ini | ind => exact ⟨inputsByte_of_exec (p := True) (ended := true) rfl (by decide), row_encode _ s⟩
  case inir | indr =>
    exact ⟨inputsByte_of_exec rfl (s.blockIn_ended _),
      row_of_tStates (if_congr (byte_sub_one_eq_zero s.cpu.b) rfl rfl)⟩

/-- Settles O40: OUTI and OUTD always end, OTIR and OTDR when B was 1. -/
theorem blockOutputSendsOneByte : Obligations.BlockOutputSendsOneByte := by
  unfold Obligations.BlockOutputSendsOneByte
  intro s
  refine ⟨?outi, ?otir, ?outd, ?otdr⟩
  case outi | outd => exact ⟨outputsByte_of_exec (p := True) (ended := true) rfl (by decide), row_encode _ s⟩
  case otir | otdr =>
    exact ⟨outputsByte_of_exec rfl (s.blockOut_ended _),
      row_of_tStates (if_congr (byte_sub_one_eq_zero s.cpu.b) rfl rfl)⟩

end Sys2Proof.Machine
end

section
/-! PROOF. The console UART and the NVRAM ports (60_exceptions.md rules R521 to R523, R553 to R555). An access to a port
is the operation of its register; the port table says which register that is. -/

namespace Sys2Proof.Machine

section
variable {s : State} {a : Word}

theorem State.io_uartStatus (v : Byte) (h : portReg s.cfg (loByte a) = .uartStatus) :
    s.ioRead a = (s.uart.status, s) ∧ s.ioWrite a v = s := by
  unfold State.ioRead State.ioWrite
  rw [h]
  exact ⟨rfl, rfl⟩

theorem State.io_uartData (v : Byte) (h : portReg s.cfg (loByte a) = .uartData) :
    s.ioRead a =
        ((s.uart.receive s.cfg.uartEmptyValue).1, { s with uart := (s.uart.receive s.cfg.uartEmptyValue).2 }) ∧
      s.ioWrite a v = { s with uart := s.uart.transmit v } := by
  unfold State.ioRead State.ioWrite
  rw [h]
  exact ⟨rfl, rfl⟩

theorem State.io_nvAddr (v : Byte) (h : portReg s.cfg (loByte a) = .nvAddr) :
    s.ioRead a = (s.nvram.addr, s) ∧ s.ioWrite a v = { s with nvram := { s.nvram with addr := v } } := by
  unfold State.ioRead State.ioWrite
  rw [h]
  exact ⟨rfl, rfl⟩

theorem State.io_nvData (v : Byte) (h : portReg s.cfg (loByte a) = .nvData) :
    s.ioRead a = (s.nvram.dataRead s.cfg.idleValue, s) ∧
      s.ioWrite a v = { s with nvram := s.nvram.dataWrite s.cfg.nvChecksum v } := by
  unfold State.ioRead State.ioWrite
  rw [h]
  exact ⟨rfl, rfl⟩

end

theorem Uart.status_toNat (u : Uart) : u.status.toNat = if u.rx = [] then 2 else 3 := by
  unfold Uart.status
  cases u.rx <;> rfl

theorem Uart.receive_of_nil {u : Uart} (h : u.rx = []) (e : Byte) : u.receive e = (e, u) := by
  simp [Uart.receive, h]

theorem Uart.receive_of_cons {u : Uart} {x : Byte} {rest : List Byte} (h : u.rx = x :: rest) (e : Byte) :
    u.receive e = (x, { u with rx := rest }) := by
  simp [Uart.receive, h]

/-- Settles O44: the status register has no side effect, the data register moves one byte of a queue. -/
theorem consoleUart : Obligations.ConsoleUart := by
  unfold Obligations.ConsoleUart
  intro s addr v hc
  refine ⟨fun hp => ?status, fun hp => ?data⟩
  case status =>
    obtain ⟨hr, hw⟩ := State.io_uartStatus v (hp ▸ portReg_uartStatus hc)
    rw [hr]
    exact ⟨rfl, s.uart.status_toNat, hw⟩
  case data =>
    obtain ⟨hr, hw⟩ := State.io_uartData v (hp ▸ portReg_uartData s.cfg)
    refine ⟨fun hnil => ?_, fun x rest hcons => ?_, hw⟩
    · rw [hr, Uart.receive_of_nil hnil]
    · rw [hr, Uart.receive_of_cons hcons]

/-! ### The NVRAM -/

/-- The record has the bytes 0 to 4 (10_state.md rule R45). -/
theorem NvRecord.get_isSome (nv : NvRecord) (k : Nat) : (nv.get k).isSome = decide (k ≤ 4) := by
  match k with
  | 0 | 1 | 2 | 3 | 4 => rfl
  | n + 5 => simp [NvRecord.get]

/-- An index from 4 on writes nothing: byte 4 is the checksum (60_exceptions.md rule R555). -/
theorem Nvram.dataWrite_of_four_le {n : Nvram} (h : 4 ≤ n.addr.toNat) (k : NvChecksum) (v : Byte) :
    n.dataWrite k v = n := by
  unfold Nvram.dataWrite
  split
  case h_5 => rfl
  all_goals omega

/-- An index up to 3 replaces its byte and recomputes the checksum (60_exceptions.md rule R555). -/
theorem Nvram.dataWrite_of_le_three {n : Nvram} (h : n.addr.toNat ≤ 3) (c : NvChecksum) (v : Byte) :
    ∃ nv, n.dataWrite c v = { n with record := nv, dirty := true } ∧
      (∀ k, k < 4 → nv.get k = if k = n.addr.toNat then some v else n.record.get k) ∧
      nv.checksum = nvChecksum c nv.signature nv.selector nv.unit nv.slice := by
  have ha : n.addr.toNat = 0 ∨ n.addr.toNat = 1 ∨ n.addr.toNat = 2 ∨ n.addr.toNat = 3 := by omega
  unfold Nvram.dataWrite
  rcases ha with ha | ha | ha | ha
  all_goals
    rw [ha]
    refine ⟨_, rfl, fun k hk => ?_, rfl⟩
    interval_cases k <;> rfl

/-- Settles O48: the index port is a register, the data port reads and writes the byte it names. -/
theorem nvramPorts : Obligations.NvramPorts := by
  unfold Obligations.NvramPorts
  intro s addr v hc
  refine ⟨fun hp => State.io_nvAddr v (hp ▸ portReg_nvAddr hc), fun hp => ?data⟩
  case data =>
    obtain ⟨hr, hw⟩ := State.io_nvData v (hp ▸ portReg_nvData hc)
    have hsome := s.nvram.record.get_isSome s.nvram.addr.toNat
    rw [hr, hw]
    refine ⟨rfl, fun hle => ?inside, fun hge => ?outside, fun hge => ?dropped, fun hle => ?written⟩
    case inside =>
      rw [decide_eq_true hle, Option.isSome_iff_exists] at hsome
      obtain ⟨b, hb⟩ := hsome
      simp only [Nvram.dataRead, hb, Option.getD_some]
    case outside =>
      rw [decide_eq_false (by omega), Option.isSome_eq_false_iff, Option.isNone_iff_eq_none] at hsome
      simp only [Nvram.dataRead, hsome, Option.getD_none]
    case dropped => rw [Nvram.dataWrite_of_four_le hge]
    case written =>
      obtain ⟨nv, he, hbytes, hsum⟩ := Nvram.dataWrite_of_le_three hle s.cfg.nvChecksum v
      exact ⟨nv, by rw [he], hbytes, hsum⟩

end Sys2Proof.Machine
end

section
/-! PROOF. The disk controller (60_exceptions.md rules R531 to R538): its registers, a command, and the transfer of a
sector byte by byte. -/

namespace Sys2Proof.Machine

section
variable {s : State} {a : Word}

theorem State.io_dkUnit (v : Byte) (h : portReg s.cfg (loByte a) = .dkUnit) :
    s.ioRead a = (s.disk.dkUnit.setWidth 8, s) ∧
      s.ioWrite a v = { s with disk := { s.disk with dkUnit := v.extractLsb' 0 4 } } := by
  unfold State.ioRead State.ioWrite
  rw [h]
  exact ⟨rfl, rfl⟩

theorem State.io_dkLba (v : Byte) {k : Fin 4} (h : portReg s.cfg (loByte a) = .dkLba k) :
    s.ioRead a = (lbaByte s.disk.dkLba k, s) ∧
      s.ioWrite a v = { s with disk := { s.disk with dkLba := setLbaByte s.disk.dkLba k v } } := by
  unfold State.ioRead State.ioWrite
  rw [h]
  exact ⟨rfl, rfl⟩

theorem State.io_dkCommand (v : Byte) (h : portReg s.cfg (loByte a) = .dkCommand) :
    s.ioRead a = (s.disk.status, s) ∧ s.ioWrite a v = { s with disk := s.disk.command s.cfg.sectorSize v } := by
  unfold State.ioRead State.ioWrite
  rw [h]
  exact ⟨rfl, rfl⟩

theorem State.io_dkData (v : Byte) (h : portReg s.cfg (loByte a) = .dkData) :
    s.ioRead a =
        ((s.disk.dataRead s.cfg.sectorSize s.cfg.idleValue).1,
          { s with disk := (s.disk.dataRead s.cfg.sectorSize s.cfg.idleValue).2 }) ∧
      s.ioWrite a v = { s with disk := s.disk.dataWrite s.cfg.sectorSize v } := by
  unfold State.ioRead State.ioWrite
  rw [h]
  exact ⟨rfl, rfl⟩

theorem State.io_dkSlices (v : Byte) (h : portReg s.cfg (loByte a) = .dkSlices) :
    s.ioRead a = (BitVec.ofNat 8 (s.disk.unitAt s.disk.dkUnit).slices, s) ∧ s.ioWrite a v = s := by
  unfold State.ioRead State.ioWrite
  rw [h]
  exact ⟨rfl, rfl⟩

end

/-! ### The registers (60_exceptions.md rules R531 to R533, R537) -/

/-- DRQ, ERR and LOADED are bits 0, 1 and 2 (60_exceptions.md rule R533). -/
theorem Disk.status_toNat (d : Disk) :
    d.status.toNat =
      (if d.dkState = .idle then 0 else 1) + (if d.dkErr = true then 2 else 0) +
        (if (d.unitAt d.dkUnit).loaded = true then 4 else 0) := by
  unfold Disk.status
  generalize (d.unitAt d.dkUnit).loaded = loaded
  generalize d.dkErr = err
  generalize d.dkState = state
  cases state <;> cases err <;> cases loaded <;> rfl

/-- The low four bits of a byte (60_exceptions.md rule R531). -/
theorem extractLsb'_eq_ofNat (v : Byte) : v.extractLsb' 0 4 = BitVec.ofNat 4 v.toNat := by
  simp [BitVec.toNat_eq]

/-- A byte of the sector number written, the others kept, as numbers (60_exceptions.md rule R532). -/
theorem setLbaByte_bytes (lba : BitVec 32) (k : Fin 4) (v : Byte) {j : Nat} (hj : j < 4) :
    (setLbaByte lba k v).toNat / 256 ^ j % 256 = if j = k.val then v.toNat else lba.toNat / 256 ^ j % 256 := by
  have h := congrArg BitVec.toNat (lbaByte_setLbaByte lba k ⟨j, hj⟩ v)
  rw [lbaByte_toNat, apply_ite BitVec.toNat, lbaByte_toNat] at h
  simpa only [Fin.ext_iff] using h

/-- Settles O45: each register is read and written in its own field of the controller. -/
theorem diskRegisters : Obligations.DiskRegisters := by
  unfold Obligations.DiskRegisters
  intro s addr v hc
  refine ⟨fun hp => ?unit, fun k hk hp => ?lba, fun hp => ?status, fun hp => ?slices⟩
  case unit =>
    obtain ⟨hr, hw⟩ := State.io_dkUnit v (hp ▸ portReg_dkUnit hc)
    rw [hr, hw, extractLsb'_eq_ofNat]
    exact ⟨rfl, BitVec.toNat_setWidth_of_le (by decide), rfl⟩
  case lba =>
    obtain ⟨hr, hw⟩ := State.io_dkLba v (k := ⟨k, hk⟩) (hp ▸ portReg_dkLba hc ⟨k, hk⟩)
    rw [hr, hw]
    exact ⟨rfl, lbaByte_toNat _ _, _, rfl, fun j hj => setLbaByte_bytes _ _ v hj⟩
  case status =>
    obtain ⟨hr, -⟩ := State.io_dkCommand v (hp ▸ portReg_dkCommand hc)
    rw [hr]
    exact ⟨rfl, s.disk.status_toNat⟩
  case slices =>
    obtain ⟨hr, hw⟩ := State.io_dkSlices v (hp ▸ portReg_dkSlices hc)
    rw [hr]
    exact ⟨rfl, BitVec.toNat_ofNat _ _, hw⟩

/-! ### A command (60_exceptions.md rule R534) -/

section
variable {d : Disk} {size : Nat} {v : Byte}

theorem Disk.sectorExists_iff :
    d.sectorExists = true ↔ (d.unitAt d.dkUnit).loaded = true ∧ d.dkLba.toNat < (d.unitAt d.dkUnit).total := by
  rw [Disk.sectorExists, Bool.and_eq_true, decide_eq_true_eq]

/-- What no command changes, and the index that every command clears. -/
theorem Disk.command_frame (d : Disk) (size : Nat) (v : Byte) :
    (d.command size v).dkIdx = 0 ∧ (d.command size v).units = d.units ∧ (d.command size v).dkUnit = d.dkUnit ∧
      (d.command size v).dkLba = d.dkLba ∧ (d.command size v).manifestWarning = d.manifestWarning := by
  unfold Disk.command
  split_ifs <;> exact ⟨rfl, rfl, rfl, rfl, rfl⟩

theorem Disk.command_abort : d.command size 0x00#8 = { d with dkState := .idle, dkIdx := 0, dkErr := false } := rfl

theorem Disk.command_read (h : d.sectorExists = true) :
    d.command size 0x01#8 =
      { d with
        dkBuf := readSector (d.unitAt d.dkUnit).image size d.dkLba.toNat
        dkCurUnit := d.dkUnit
        dkCurLba := d.dkLba
        dkState := .readXfer
        dkIdx := 0
        dkErr := false } := if_pos h

theorem Disk.command_write (h : d.sectorExists = true) :
    d.command size 0x02#8 =
      { d with
        dkCurUnit := d.dkUnit, dkCurLba := d.dkLba, dkState := .writeXfer, dkIdx := 0, dkErr := false } := if_pos h

/-- A command that is none of the three, or that finds no sector, is refused. -/
theorem Disk.command_refused (h0 : v ≠ 0x00#8) (h : v = 0x01#8 ∨ v = 0x02#8 → ¬ d.sectorExists = true) :
    d.command size v = { d with dkState := .idle, dkIdx := 0, dkErr := true } := by
  unfold Disk.command
  rw [if_neg h0]
  split_ifs with h1 he h2 he
  · exact absurd he (h (.inl h1))
  · rfl
  · exact absurd he (h (.inr h2))
  · rfl
  · rfl

theorem readSector_getElem? (image : List Byte) {size k : Nat} (lba : Nat) (hk : k < size) :
    (readSector image size lba)[k]? = image[lba * size + k]? := by
  rw [readSector, List.getElem?_take_of_lt hk, List.getElem?_drop]

end

/-- Settles O46: a command is an abort, a transfer started on a sector that exists, or an error. -/
theorem diskCommand : Obligations.DiskCommand := by
  unfold Obligations.DiskCommand
  intro s addr v hc hp
  obtain ⟨-, hw⟩ := State.io_dkCommand v (hp ▸ portReg_dkCommand hc)
  obtain ⟨hidx, hunits, hunit, hlba, hwarn⟩ := s.disk.command_frame s.cfg.sectorSize v
  refine ⟨_, hw, hidx, hunits, hunit, hlba, hwarn, ?abort, fun hv hl ht => ?start, fun hv hl ht k hk => ?buffer,
    fun hv hno => ?none, fun h0 h1 h2 => ?other⟩
  case abort => rintro rfl; exact ⟨rfl, rfl⟩
  case start =>
    have he := Disk.sectorExists_iff.2 ⟨hl, ht⟩
    rcases hv with rfl | rfl
    · rw [Disk.command_read he]; exact ⟨rfl, rfl, rfl, rfl⟩
    · rw [Disk.command_write he]; exact ⟨rfl, rfl, rfl, rfl⟩
  case buffer =>
    subst hv
    rw [Disk.command_read (Disk.sectorExists_iff.2 ⟨hl, ht⟩)]
    exact readSector_getElem? _ _ hk
  case none =>
    have he : ¬ s.disk.sectorExists = true := by
      rw [Disk.sectorExists_iff, not_and_or, Bool.not_eq_true, not_lt]
      exact hno
    have h0 : v ≠ 0#8 := by rcases hv with rfl | rfl <;> decide
    rw [Disk.command_refused h0 fun _ => he]
    exact ⟨rfl, rfl⟩
  case other =>
    rw [Disk.command_refused h0 fun hv => absurd hv (not_or.2 ⟨h1, h2⟩)]
    exact ⟨rfl, rfl⟩

/-! ### The transfer of a sector (60_exceptions.md rules R535, R536) -/

section
variable {d : Disk} {size : Nat} {image bytes : List Byte} {lba total k : Nat}

theorem Disk.dataRead_of_readXfer (h : d.dkState = .readXfer) (idle : Byte) :
    d.dataRead size idle =
      (d.dkBuf.getD d.dkIdx 0x00#8,
        if d.dkIdx + 1 = size then { d with dkState := .idle, dkIdx := 0 } else { d with dkIdx := d.dkIdx + 1 }) := by
  rw [Disk.dataRead, h]

theorem Disk.dataRead_of_ne (h : d.dkState ≠ .readXfer) (idle : Byte) : d.dataRead size idle = (idle, d) := by
  unfold Disk.dataRead
  split
  next hr => exact absurd hr h
  all_goals rfl

theorem Disk.dataWrite_of_ne (h : d.dkState ≠ .writeXfer) (v : Byte) : d.dataWrite size v = d := by
  unfold Disk.dataWrite
  split
  next hw => exact absurd hw h
  all_goals rfl

theorem Disk.dataWrite_of_writeXfer (h : d.dkState = .writeXfer) (v : Byte) :
    d.dataWrite size v =
      if d.dkIdx + 1 = size then Disk.commit { d with dkBuf := d.dkBuf.set d.dkIdx v } size
      else { d with dkBuf := d.dkBuf.set d.dkIdx v, dkIdx := d.dkIdx + 1 } := by
  rw [Disk.dataWrite, h]

/-- The commit replaces the record of the current unit and keeps the others (60_exceptions.md rule R536). -/
theorem Disk.unitAt_commit (d : Disk) (size : Nat) (u : BitVec 4) :
    (d.commit size).unitAt u =
      if u = d.dkCurUnit then
        { d.unitAt d.dkCurUnit with
          image := writeSector (d.unitAt d.dkCurUnit).image size d.dkCurLba.toNat d.dkBuf, dirty := true }
      else d.unitAt u :=
  d.unitAt_setUnit _ u _

/-- The bytes of a sector written are the bytes given (60_exceptions.md rule R538). -/
theorem writeSector_getElem?_inside (h : image.length = total * size) (hl : lba < total)
    (hb : bytes.length = size) (hk : k < size) :
    (writeSector image size lba bytes)[lba * size + k]? = bytes[k]? := by
  have hfit : (lba + 1) * size ≤ total * size := Nat.mul_le_mul_right _ hl
  rw [Nat.succ_mul] at hfit
  have hlen : (image.take (lba * size)).length = lba * size := List.length_take_of_le (by omega)
  rw [writeSector, List.append_assoc, List.getElem?_append_right (by omega), hlen, Nat.add_sub_cancel_left,
    List.getElem?_append_left (by omega)]

/-- Every other byte of the image is kept (60_exceptions.md rule R538). -/
theorem writeSector_getElem?_outside (h : image.length = total * size) (hl : lba < total)
    (hb : bytes.length = size) (hk : k < lba * size ∨ lba * size + size ≤ k) :
    (writeSector image size lba bytes)[k]? = image[k]? := by
  have hfit : (lba + 1) * size ≤ total * size := Nat.mul_le_mul_right _ hl
  rw [Nat.succ_mul] at hfit
  have hlen : (image.take (lba * size)).length = lba * size := List.length_take_of_le (by omega)
  rw [writeSector, List.append_assoc]
  rcases hk with hk | hk
  · rw [List.getElem?_append_left (by omega), List.getElem?_take_of_lt hk]
  · rw [List.getElem?_append_right (by omega), hlen, List.getElem?_append_right (by omega), hb,
      List.getElem?_drop]
    congr 1
    omega

end

/-- Settles O47: a byte moved inside a sector touches the buffer and the index; the last byte written commits the
buffer to the sector of the image that the transfer was started on. -/
theorem diskData : Obligations.DiskData := by
  unfold Obligations.DiskData
  intro s addr v hs hp
  obtain ⟨hr, hw⟩ := State.io_dkData v (hp ▸ portReg_dkData hs.config)
  have hlen := hs.buffer
  have hidx := hs.index
  rw [hr, hw]
  refine ⟨fun hread => ?read, fun hne => ?idleRead, fun hwrite hmore => ?store, fun hwrite hlast => ?commit,
    fun hne => ?idleWrite⟩
  case read =>
    rw [Disk.dataRead_of_readXfer hread]
    refine ⟨by simp [hlen, hidx], fun hmore => ?_, fun hlast => ⟨s.disk.dkCurUnit, s.disk.dkCurLba, ?_⟩⟩
    · rw [if_neg hmore]
    · rw [if_pos hlast]
  case idleRead => rw [Disk.dataRead_of_ne hne]
  case store => rw [Disk.dataWrite_of_writeXfer hwrite, if_neg hmore]
  case commit =>
    have hbuf : (s.disk.dkBuf.set s.disk.dkIdx v).length = s.cfg.sectorSize := List.length_set.trans hlen
    obtain ⟨himage, -⟩ := hs.units s.disk.dkCurUnit
    have hlba := hs.transfer (by simp [hwrite])
    rw [Disk.dataWrite_of_writeXfer hwrite, if_pos hlast]
    refine ⟨_, _, rfl, rfl, (Disk.unitAt_commit _ _ _).trans (if_pos rfl),
      fun u hu => (Disk.unitAt_commit _ _ _).trans (if_neg hu), fun k hk => ?_, fun k hk => ?_⟩
    · exact writeSector_getElem?_inside himage hlba hbuf hk
    · exact writeSector_getElem?_outside himage hlba hbuf hk
  case idleWrite => rw [Disk.dataWrite_of_ne hne]

end Sys2Proof.Machine
end

section
/-! PROOF. One step (60_exceptions.md rule R503): an interrupt accepted, a halted cycle, or the instruction at pc. Each
branch of `step` and of its T-states is one equation; what an interrupt entry does is `enterInterrupt_becomes`. -/

namespace Sys2Proof.Machine

section
variable {s : State}

/-! ### The branches of a step -/

theorem step_of_nmi (hc : s.cfg.wellFormed = true) (hn : s.pins.nmiPending = true) :
    step s = .next s.acceptNmi ∧ stepTStates s = 11 := by
  simp [step, stepTStates, hc, hn]

theorem step_of_int (hc : s.cfg.wellFormed = true) (hn : s.pins.nmiPending = false) (hi : s.intAccepted = true) :
    step s = s.acceptInt := by
  simp [step, hc, hn, hi]

theorem stepTStates_of_int (hn : s.pins.nmiPending = false) (hi : s.intAccepted = true) :
    stepTStates s = if s.cpu.im = .im2 then 19 else 13 := by
  cases him : s.cpu.im <;> simp [stepTStates, hn, hi, him]

theorem step_of_halted (hc : s.cfg.wellFormed = true) (hn : s.pins.nmiPending = false) (hi : s.intAccepted = false)
    (hh : s.cpu.halted = true) : step s = .next s.haltedCycle ∧ stepTStates s = 4 := by
  simp [step, stepTStates, hc, hn, hi, hh]

theorem step_of_instr {i : Instr} (hn : RunsNext s) (hd : s.decodeAtPc = .instr i) :
    step s = exec i (s.beginInstr i.rIncrement) ∧ stepTStates s = tStates i s := by
  obtain ⟨hc, hnmi, hi, hh⟩ := hn
  simp [step, stepTStates, hc, hnmi, hi, hh, hd]

/-- T-states do not depend on what a step does before an instruction. -/
theorem tStates_beginInstr (i : Instr) (s : State) (k : Nat) : tStates i (s.beginInstr k) = tStates i s := by
  cases i <;> rfl

theorem State.intAccepted_iff (s : State) :
    s.intAccepted = true ↔ s.pins.intLine = true ∧ s.cpu.iff1 = true ∧ s.cpu.eiDelay = false := by
  simp only [State.intAccepted, Bool.and_eq_true, Bool.not_eq_true', and_assoc]

end

/-- Settles O1: a state that fetches takes the last branch of `step`, and T-states read neither R nor `ei_delay`. -/
theorem stepRunsTheDecodedInstruction : Obligations.StepRunsTheDecodedInstruction := by
  unfold Obligations.StepRunsTheDecodedInstruction
  intro s i hn hd
  have hd : s.decodeAtPc = .instr i := hd
  obtain ⟨hstep, ht⟩ := step_of_instr hn hd
  exact ⟨hstep, s.beginInstr_becomes _, refreshed_toNat s.cpu.r _, ht.trans (tStates_beginInstr i s _).symm⟩

/-- Settles O51: a halted cycle is the beginning of an instruction and nothing more. -/
theorem haltedCycle : Obligations.HaltedCycle := by
  unfold Obligations.HaltedCycle
  intro s hc hn hno hh
  have hi : s.intAccepted = false := by
    rw [Bool.eq_false_iff, ne_eq, State.intAccepted_iff]
    rintro ⟨hl, h1, he⟩
    simp [hl, h1, he] at hno
  obtain ⟨hstep, ht⟩ := step_of_halted hc hn hi hh
  exact ⟨_, hstep, s.beginInstr_becomes 1, refreshed_toNat s.cpu.r 1, ht⟩

/-! ### The non-maskable interrupt -/

/-- Acceptance of the non-maskable interrupt, from the state with the request and `ei_delay` cleared
(60_exceptions.md rule R505). -/
theorem State.acceptNmi_becomes (s : State) :
    Becomes { s with pins := { s.pins with nmiPending := false }, cpu := { s.cpu with eiDelay := false } } s.acceptNmi
      { s.cpu with
        eiDelay := false, halted := false, iff1 := false, r := refreshed s.cpu.r 1, sp := s.cpu.sp - 2#16,
        pc := 0x0066#16 }
      [(s.cpu.sp - 1#16, hiByte s.cpu.pc), (s.cpu.sp - 2#16, loByte s.cpu.pc)] :=
  (State.enterInterrupt_becomes _ s.cpu.iff2).setPc 0x0066#16

/-- Settles O49: the pending request is the first branch of `step`, whatever else the state holds. -/
theorem nonMaskableInterrupt : Obligations.NonMaskableInterrupt := by
  unfold Obligations.NonMaskableInterrupt
  intro s hc hn
  obtain ⟨hstep, ht⟩ := step_of_nmi hc hn
  obtain ⟨hcpu, hm, hr⟩ := s.acceptNmi_becomes
  have hrefresh : s.acceptNmi.cpu.r = refreshed s.cpu.r 1 := by rw [hcpu]
  exact ⟨_, hstep, by rw [hrefresh]; exact hcpu, hrefresh ▸ refreshed_toNat s.cpu.r 1, hm, hr, ht⟩

/-! ### Return from the non-maskable interrupt -/

/-- A window has at least 256 bytes, so neighbouring addresses differ inside their pages. -/
theorem State.translate_add_one_ne {s : State} (hc : s.cfg.wellFormed = true) (a : Word) :
    s.translate (a + 1#16) ≠ s.translate a := by
  obtain ⟨hlo, hhi, -⟩ := Config.bounds hc
  have hoffset : ∀ b, s.translate b % s.cfg.pageSize = b.toNat % s.cfg.pageSize := fun b => by
    rw [State.translate, Nat.mul_add_mod_self_right, Nat.mod_mod]
  have hdvd : s.cfg.pageSize ∣ 65536 := pow_dvd_pow 2 hhi
  have hnext : (a + 1#16).toNat % s.cfg.pageSize = (a.toNat + 1) % s.cfg.pageSize := by
    rw [BitVec.toNat_add]
    exact Nat.mod_mod_of_dvd _ hdvd
  intro h
  have hmod : a.toNat + 1 ≡ a.toNat + 0 [MOD s.cfg.pageSize] :=
    hnext.symm.trans ((hoffset _).symm.trans ((congrArg (· % s.cfg.pageSize) h).trans (hoffset a)))
  have hone : s.cfg.pageSize ∣ 1 := ((Nat.ModEq.add_left_cancel' _ hmod).dvd_iff dvd_rfl).2 (dvd_zero _)
  have hsize : 1 < s.cfg.pageSize := Nat.one_lt_two_pow (by omega)
  exact hsize.ne' (Nat.dvd_one.1 hone)

theorem heldAfter_two (s : State) (a b : Word) (v w : Byte) (pa : Nat) :
    heldAfter s [(a, v), (b, w)] pa =
      if s.isRom b = false ∧ s.translate b = pa then w
      else if s.isRom a = false ∧ s.translate a = pa then v else s.physRead pa := rfl

/-- With the stack in RAM, what a word pushed leaves to be read: its two bytes, and every byte elsewhere as before. -/
theorem MemoryAfter.pushed {s t : State} {v : Word} {hi lo : Byte}
    (h : MemoryAfter s t [(v - 1#16, hi), (v - 2#16, lo)]) (hc : s.cfg.wellFormed = true)
    (h1 : s.isRom (v - 1#16) = false) (h2 : s.isRom (v - 2#16) = false) :
    t.readByte (v - 1#16) = hi ∧ t.readByte (v - 2#16) = lo ∧
      ∀ a, s.translate a ≠ s.translate (v - 1#16) → s.translate a ≠ s.translate (v - 2#16) →
        t.readByte a = s.readByte a := by
  obtain ⟨-, -, -, -, hread⟩ := h
  have hne : s.translate (v - 2#16) ≠ s.translate (v - 1#16) := by
    have hsucc : v - 1#16 = v - 2#16 + 1#16 := by rw [← word_sub_one_one, BitVec.sub_add_cancel]
    rw [hsucc]
    exact (State.translate_add_one_ne hc _).symm
  refine ⟨?_, ?_, fun a ha1 ha2 => ?_⟩
  · rw [hread, heldAfter_two, if_neg (fun h => hne h.2), if_pos ⟨h1, rfl⟩]
  · rw [hread, heldAfter_two, if_pos ⟨h2, rfl⟩]
  · rw [hread, heldAfter_two, if_neg (fun h => ha2 h.2.symm), if_neg (fun h => ha1 h.2.symm), s.readByte_eq]

/-- Settles O52: `RETN` pops the pc that the acceptance pushed, and IFF2 was kept. -/
theorem returnFromNonMaskable : Obligations.ReturnFromNonMaskable := by
  unfold Obligations.ReturnFromNonMaskable
  intro s hs hn h1 h2
  obtain ⟨hstep, -⟩ := step_of_nmi hs.config hn
  obtain ⟨hcpu, hm, hpins, huart, hdisk, hnvram, -⟩ := s.acceptNmi_becomes
  obtain ⟨hhi, hlo, hkept⟩ := hm.pushed hs.config h1 h2
  obtain ⟨hcpu', ⟨-, -, -, -, hread⟩, hpins', huart', hdisk', hnvram', -⟩ := s.acceptNmi.returnFrom_restoreIff_becomes
  have hsp : s.acceptNmi.cpu.sp = s.cpu.sp - 2#16 := by rw [hcpu]
  have htop : s.cpu.sp - 2#16 + 1#16 = s.cpu.sp - 1#16 := by rw [← word_sub_one_one, BitVec.sub_add_cancel]
  refine ⟨_, _, hstep, rfl, ?cpu, fun a ha1 ha2 => (hread a).trans (hkept a ha1 ha2), by rw [hpins', hpins],
    huart'.trans huart, hdisk'.trans hdisk, hnvram'.trans hnvram⟩
  case cpu =>
    rw [hcpu', hsp, htop, hhi, hlo, mkWord_hi_lo, hcpu, BitVec.sub_add_cancel]

/-! ### The maskable interrupt -/

/-- The address that the acceptance of a maskable interrupt goes to, by IM (60_exceptions.md rules R506 to R508). -/
def State.intTarget (s : State) : Word :=
  match s.cpu.im with
  | .im0 => restartAddr (s.pins.intData.extractLsb' 3 3)
  | .im1 => 0x0038#16
  | .im2 => (s.enterInterrupt false).readWord (mkWord s.cpu.i (s.pins.intData &&& 0xFE#8))

section
variable {s : State}

theorem State.acceptInt_next (h : s.cpu.im = .im0 → isRst s.pins.intData = true) :
    s.acceptInt = .next ((s.enterInterrupt false).setPc s.intTarget) := by
  obtain ⟨hcpu, -, hpins, -⟩ := s.enterInterrupt_becomes false
  unfold State.acceptInt State.intTarget
  cases him : s.cpu.im
  case im0 => exact if_pos (h him)
  case im1 => rfl
  case im2 => simp only [hcpu, hpins]

theorem State.acceptInt_refused (him : s.cpu.im = .im0) (h : ¬ isRst s.pins.intData = true) :
    s.acceptInt = .refused (.mode0Interrupt s.pins.intData) := by
  rw [State.acceptInt, him]
  exact if_neg h

theorem State.intTarget_of_im0 (him : s.cpu.im = .im0) (y : BitVec 3) (h : s.pins.intData = 0b11#2 ++ y ++ 0b111#3) :
    s.intTarget.toNat = 8 * y.toNat := by
  have hy : ∀ y : BitVec 3, (0b11#2 ++ y ++ 0b111#3).extractLsb' 3 3 = y := by decide
  rw [State.intTarget, him, h]
  exact (congrArg (fun z => (restartAddr z).toNat) (hy y)).trans (restartAddr_toNat y)

theorem State.intTarget_of_im1 (him : s.cpu.im = .im1) : s.intTarget = 0x0038#16 := by rw [State.intTarget, him]

/-- In mode 2 the table entry is at an even address (60_exceptions.md rule R508). -/
theorem State.intTarget_of_im2 (him : s.cpu.im = .im2) {p : Word}
    (hp : p.toNat = s.cpu.i.toNat * 256 + s.pins.intData.toNat / 2 * 2) :
    s.intTarget = (s.enterInterrupt false).readWord p := by
  have heven : ∀ v : Byte, (v &&& 0xFE#8).toNat = v.toNat / 2 * 2 := by decide +kernel
  have hentry : mkWord s.cpu.i (s.pins.intData &&& 0xFE#8) = p := by
    rw [BitVec.toNat_eq, mkWord_toNat, heven, hp]
  rw [State.intTarget, him, ← hentry]

end

/-- Settles O50: the three modes enter alike and differ in the address they go to. -/
theorem maskableInterrupt : Obligations.MaskableInterrupt := by
  unfold Obligations.MaskableInterrupt
  intro s hc hn hl h1 he
  have hi := s.intAccepted_iff.2 ⟨hl, h1, he⟩
  rw [step_of_int hc hn hi, stepTStates_of_int hn hi]
  refine ⟨fun him hno => ?refused, fun hrst => ?accepted⟩
  case refused =>
    refine State.acceptInt_refused him fun h => ?_
    obtain ⟨y, hy⟩ := (isRst_iff _).1 h
    exact hno y hy
  case accepted =>
    obtain ⟨hcpu, hrest⟩ := (s.enterInterrupt_becomes false).setPc s.intTarget
    refine ⟨_, State.acceptInt_next fun him => (isRst_iff _).2 (hrst him), ⟨?cpu, hrest⟩, ?refresh, ?im0, ?im1, ?im2⟩
    case cpu => rw [hcpu]
    case refresh => rw [hcpu]; exact refreshed_toNat s.cpu.r 1
    case im0 => exact fun y him hy => ⟨State.intTarget_of_im0 him y hy, by rw [him]; rfl⟩
    case im1 => exact fun him => ⟨State.intTarget_of_im1 him, by rw [him]; rfl⟩
    case im2 => exact fun p him hp => ⟨State.intTarget_of_im2 him hp, if_pos him⟩

end Sys2Proof.Machine
end

section
/-! PROOF. The host's polls and boot settings (60_exceptions.md rules R548, R552, R556 to R558). A boot option is the menu
string, one letter, a unit, or a unit and a slice; `parseSetting` answers the record of each form and nothing else, and
the record of each form is read back as the string. -/

namespace Sys2Proof.Machine

/-! ### The four forms -/

theorem isLetter_iff (c : Char) : isLetter c = true ↔ AsciiLetter c := by
  simp only [isLetter, AsciiLetter, Bool.or_eq_true, Bool.and_eq_true, decide_eq_true_eq]

/-- A boot option as rule R557 lists them, with its selector, unit and slice. -/
inductive BootForm (c : Config) : List Char → Byte → Byte → Byte → Prop where
  | menu : BootForm c c.nvMenuString 0x00#8 0xFF#8 0xFF#8
  | letter {ch : Char} (h : AsciiLetter ch) : BootForm c [ch] (BitVec.ofNat 8 ch.toNat) 0xFF#8 0xFF#8
  | unit {u : Nat} (h : u ≤ 15) : BootForm c (Nat.toDigits 10 u) 0x00#8 (BitVec.ofNat 8 u) 0xFF#8
  | slice {u t : Nat} (hu : u ≤ 15) (ht : t ≤ 254) :
    BootForm c (Nat.toDigits 10 u ++ '.' :: Nat.toDigits 10 t) 0x00#8 (BitVec.ofNat 8 u) (BitVec.ofNat 8 t)

/-- A well-formed menu string has none of the other three forms (00_scope.md rule R5). -/
theorem Config.menuString_ne {c : Config} (hc : c.wellFormed = true) :
    (∀ ch, AsciiLetter ch → c.nvMenuString ≠ [ch]) ∧ (∀ u, c.nvMenuString ≠ Nat.toDigits 10 u) ∧
      ∀ u t, c.nvMenuString ≠ Nat.toDigits 10 u ++ '.' :: Nat.toDigits 10 t := by
  have hm : menuStringWellFormed c.nvMenuString = true := by
    simp only [Config.wellFormed, Config.devicesWellFormed, Bool.and_eq_true] at hc
    exact hc.2.1.2
  have hnum : ∀ n, isNumber (Nat.toDigits 10 n) = true := fun n => by
    obtain ⟨hall, d, ds, he, -⟩ := toDigits_digits n
    rw [he] at hall ⊢
    simp [isNumber, hall]
  refine ⟨fun ch hl h => ?letter, fun u h => ?unit, fun u t h => ?slice⟩ <;> rw [h] at hm
  case letter => simp [menuStringWellFormed, (isLetter_iff ch).2 hl] at hm
  case unit => simp [menuStringWellFormed, hnum] at hm
  case slice => simp [menuStringWellFormed, splitAtDot_of_digits_append (toDigits_digits u).1, hnum] at hm

section
variable {c : Config} {cs : List Char} {sel unit slice : Byte}

theorem isLetter_of_isDigit {ch : Char} (h : isDigit ch = true) : isLetter ch = false := by
  simp only [isDigit, isLetter, Bool.and_eq_true, decide_eq_true_eq] at h ⊢
  simp only [Bool.or_eq_false_iff, Bool.and_eq_false_iff, decide_eq_false_iff_not]
  omega

/-- Neither a numeral nor a pair of numerals is a single letter. -/
theorem toDigits_append_not_letter (u : Nat) (ds : List Char) :
    ¬ ((Nat.toDigits 10 u ++ ds).length = 1 ∧ (Nat.toDigits 10 u ++ ds).all isLetter = true) := by
  obtain ⟨hall, d, rest, he, -⟩ := toDigits_digits u
  rw [he] at hall ⊢
  simp only [List.all_cons, Bool.and_eq_true] at hall
  rintro ⟨-, hl⟩
  simp [isLetter_of_isDigit hall.1] at hl

/-- Every form is parsed to its own record (60_exceptions.md rule R557). -/
theorem BootForm.parse (h : BootForm c cs sel unit slice) (hc : c.wellFormed = true) :
    parseSetting c cs = some (sel, unit, slice) := by
  obtain ⟨hletter, hunit, hslice⟩ := Config.menuString_ne hc
  cases h
  case menu => exact if_pos rfl
  case letter ch hl =>
    rw [parseSetting, if_neg (hletter ch hl).symm, if_pos (by simp [(isLetter_iff ch).2 hl])]
    rfl
  case unit u hu =>
    have hnot := toDigits_append_not_letter u []
    rw [List.append_nil] at hnot
    rw [parseSetting, if_neg (hunit u).symm, if_neg hnot, splitAtDot_of_digits (toDigits_digits u).1]
    simp only [isNumeral_toDigits, numeralValue_toDigits, hu, and_self, if_true]
  case slice u t hu ht =>
    rw [parseSetting, if_neg (hslice u t).symm, if_neg (toDigits_append_not_letter u _),
      splitAtDot_of_digits_append (toDigits_digits u).1]
    simp only [isNumeral_toDigits, numeralValue_toDigits, hu, ht, and_self, if_true]

/-- What is parsed has one of the forms. -/
theorem bootForm_of_parse (h : parseSetting c cs = some (sel, unit, slice)) : BootForm c cs sel unit slice := by
  unfold parseSetting at h
  split_ifs at h with hmenu hletter
  · cases h
    subst hmenu
    exact .menu
  · cases h
    obtain ⟨hlen, hall⟩ := hletter
    obtain ⟨ch, rfl⟩ := List.length_eq_one_iff.1 hlen
    exact .letter ((isLetter_iff ch).1 (by simpa using hall))
  · have hjoin := splitAtDot_join cs
    split at h
    next u he =>
      split_ifs at h with hu
      cases h
      obtain ⟨hu, hle⟩ := hu
      have hform := BootForm.unit (c := c) hle
      rw [← isNumeral_iff.1 hu] at hform
      rw [hjoin, he]
      simpa using hform
    next u t he =>
      split_ifs at h with hut
      cases h
      obtain ⟨hu, hule, ht, htle⟩ := hut
      have hform := BootForm.slice (c := c) hule htle
      rw [← isNumeral_iff.1 hu, ← isNumeral_iff.1 ht] at hform
      rw [hjoin, he]
      exact hform

/-- The numerals of getSetting are the library's, up to the largest slice. -/
theorem decimal_eq_toDigits {n : Nat} (h : n ≤ 254) : decimal n = Nat.toDigits 10 n := by
  have hall : ∀ k : Fin 255, decimal k = Nat.toDigits 10 k := by decide +kernel
  exact hall ⟨n, by omega⟩

theorem ofNat_toNat_of_le {n : Nat} (h : n ≤ 254) : (BitVec.ofNat 8 n).toNat = n := by
  rw [BitVec.toNat_ofNat]
  omega

/-- The record of each form is read back as the string (60_exceptions.md rule R556). -/
theorem BootForm.decoded (h : BootForm c cs sel unit slice) {nv : NvRecord} (hsel : nv.selector = sel)
    (hunit : nv.unit = unit) (hslice : nv.slice = slice) : nv.decoded c = cs := by
  have hzero : ¬ isLetter (Char.ofNat (0x00#8).toNat) = true := by decide
  rw [NvRecord.decoded, hsel, hunit, hslice]
  cases h
  case menu => rfl
  case letter ch hl =>
    have hch : Char.ofNat (BitVec.ofNat 8 ch.toNat).toNat = ch := by
      have hlt : ch.toNat ≤ 254 := by unfold AsciiLetter at hl; omega
      rw [ofNat_toNat_of_le hlt, Char.ofNat_toNat]
    rw [hch, if_pos ⟨(isLetter_iff ch).2 hl, rfl, rfl⟩]
  case unit u hu =>
    rw [ofNat_toNat_of_le (n := u) (by omega), if_neg fun h => hzero h.1, if_pos ⟨rfl, hu, rfl⟩,
      decimal_eq_toDigits (by omega)]
  case slice u t hu ht =>
    have hne : BitVec.ofNat 8 t ≠ 0xFF#8 := fun h => by
      have h255 : t = 255 := (ofNat_toNat_of_le ht).symm.trans (congrArg BitVec.toNat h)
      omega
    rw [ofNat_toNat_of_le (n := u) (by omega), ofNat_toNat_of_le ht, if_neg fun h => hzero h.1,
      if_neg fun h => hne h.2.2, if_pos ⟨rfl, hu, ht⟩, decimal_eq_toDigits (by omega), decimal_eq_toDigits ht,
      List.append_assoc, List.singleton_append]

end

/-! ### The calls, in an engine that exists -/

section
variable {s : State} {cs : List Char} {sel unit slice : Byte}

theorem State.hostCheckManifestWriteWarning_eq (hl : s.life ≠ .uninit) :
    s.hostCheckManifestWriteWarning =
      (s.disk.manifestWarning, { s with disk := { s.disk with manifestWarning := false } }) := by
  unfold State.hostCheckManifestWriteWarning
  cases h : s.life
  case uninit => exact absurd h hl
  all_goals rfl

theorem State.hostHasChange_eq (hl : s.life ≠ .uninit) :
    s.hostHasChange = (s.nvram.dirty, { s with nvram := { s.nvram with dirty := false } }) := by
  unfold State.hostHasChange
  cases h : s.life
  case uninit => exact absurd h hl
  all_goals rfl

theorem State.hostIsInitialized_eq (hl : s.life ≠ .uninit) :
    s.hostIsInitialized = (s.nvram.record.signature == s.cfg.nvSig) := by
  unfold State.hostIsInitialized
  cases h : s.life
  case uninit => exact absurd h hl
  all_goals rfl

theorem State.hostGetSetting_eq (hl : s.life ≠ .uninit) :
    s.hostGetSetting = if s.nvram.record.valid s.cfg then s.nvram.record.decoded s.cfg else [] := by
  unfold State.hostGetSetting
  cases h : s.life
  case uninit => exact absurd h hl
  all_goals rfl

theorem State.setsBootRecord_of_parse (hl : s.life ≠ .uninit)
    (h : parseSetting s.cfg cs = some (sel, unit, slice)) : SetsBootRecord s cs sel unit slice := by
  unfold SetsBootRecord State.hostSetSetting
  rw [h]
  cases h : s.life
  case uninit => exact absurd h hl
  all_goals rfl

theorem State.hostSetSetting_of_parse_none (h : parseSetting s.cfg cs = none) :
    s.hostSetSetting cs = (false, s) := by
  unfold State.hostSetSetting
  rw [h]
  cases s.life <;> rfl

/-- An accepted setting is read back, initialises the record and is reported as a change. -/
theorem SetsBootRecord.readBack (h : SetsBootRecord s cs sel unit slice) (hl : s.life ≠ .uninit)
    (hf : BootForm s.cfg cs sel unit slice) :
    (s.hostSetSetting cs).2.hostGetSetting = cs ∧ (s.hostSetSetting cs).2.hostIsInitialized = true ∧
      (s.hostSetSetting cs).2.hostHasChange.1 = true := by
  unfold SetsBootRecord at h
  rw [h]
  refine ⟨(State.hostGetSetting_eq (by exact hl)).trans ?_,
    (State.hostIsInitialized_eq (by exact hl)).trans (beq_self_eq_true _),
    congrArg Prod.fst (State.hostHasChange_eq (by exact hl))⟩
  rw [if_pos (by simp [NvRecord.valid, NvRecord.sealed])]
  exact hf.decoded rfl rfl rfl

end

/-- Settles O60: a string of one of the four forms is parsed to its record, and what is parsed has one of them. -/
theorem hostPollsAndSettings : Obligations.HostPollsAndSettings := by
  unfold Obligations.HostPollsAndSettings
  intro s hl hc
  rw [State.hostCheckManifestWriteWarning_eq hl, State.hostHasChange_eq hl]
  refine ⟨rfl, ?warning, rfl, ?change, fun cs => ?settings⟩
  case warning => exact congrArg Prod.fst (State.hostCheckManifestWriteWarning_eq (by exact hl))
  case change => exact congrArg Prod.fst (State.hostHasChange_eq (by exact hl))
  case settings =>
    have hsets : ∀ {ds sel unit slice}, BootForm s.cfg ds sel unit slice → SetsBootRecord s ds sel unit slice :=
      fun hf => State.setsBootRecord_of_parse hl (hf.parse hc)
    refine ⟨?menu, ?letter, ?unit, ?slice, fun hmenu hletter hunit hslice => ?other, fun hok => ?readBack⟩
    case menu => rintro rfl; exact hsets .menu
    case letter => rintro ch hch rfl; exact hsets (.letter hch)
    case unit => rintro u hu rfl; exact hsets (.unit hu)
    case slice => rintro u t hu ht rfl; exact hsets (.slice hu ht)
    case other =>
      cases hp : parseSetting s.cfg cs with
      | none => exact State.hostSetSetting_of_parse_none hp
      | some r =>
        obtain ⟨sel, unit, slice⟩ := r
        cases bootForm_of_parse hp with
        | menu => exact absurd rfl hmenu
        | letter h => exact absurd rfl (hletter _ h)
        | unit h => exact absurd rfl (hunit _ h)
        | slice hu ht => exact absurd rfl (hslice _ _ hu ht)
    case readBack =>
      cases hp : parseSetting s.cfg cs with
      | none => rw [State.hostSetSetting_of_parse_none hp] at hok; cases hok
      | some r =>
        obtain ⟨sel, unit, slice⟩ := r
        have hf := bootForm_of_parse hp
        exact (hsets hf).readBack hl hf

end Sys2Proof.Machine
end
